-- ==== Sys2Proof/Word.lean ====
section
/-! DEFINITION. The words the block handles: 2-bit codes, and the width arithmetic of 00_scope.md R5. -/

namespace Sys2Proof

/-- A 2-bit operation or phase code (formats OP and PH, 30_encoding.md R42 to R44). -/
abbrev Code := BitVec 2

/-- `clog2 n` of R5: the least `k` with `2^k >= n`. -/
def clog2 (n : Nat) : Nat :=
  if n ≤ 1 then 0 else Nat.log2 (n - 1) + 1

end Sys2Proof
end

