-- ==== Sys2Proof/Config.lean ====
section
/-! DEFINITION. The implementation parameters CFG of 00_scope.md R5, the names of what lies around the block (sources, pins,
turns), and the two free values: the arbiter's choice (60 R109) and the turns of the agents outside (60 R105). -/

namespace Sys2Proof

/-- The three notification sources (60_exceptions.md R104): periodic tick, input button, stop/limit. -/
inductive Source where
  | t
  | a
  | b
  deriving DecidableEq, Repr

/-- The input pins of 20_memory.md R31 that carry an occurrence (CLK carries none: no rule depends on it, log 22). -/
inductive Pin where
  | evT
  | evA
  | evB
  | rst
  | start
  deriving DecidableEq, Repr

/-- Who moves next in a run of 60_exceptions.md R105: a pin (environment or host), or the dispatcher. -/
inductive Turn where
  | pin (p : Pin)
  | dispatcher
  deriving DecidableEq, Repr, Inhabited

/-- The parameter ARB (R5, R109): any pending source, or a total order, highest priority first. -/
inductive Arb where
  | free
  | order (first second third : Source)
  deriving DecidableEq, Repr

/-- The configuration record of R5. It never changes (R7, R22); State carries it (log 1). -/
structure Config where
  /-- TPS: ticks per second. -/
  tps : Nat
  /-- PERIOD: the cycle length in seconds. -/
  period : Nat
  /-- TOP: the full cooldown window, in ticks. -/
  top : Nat
  /-- GUARD: the fixed margin, in ticks. -/
  guard : Nat
  /-- M: the drive magnitude. -/
  m : Nat
  /-- MAG_W: the width of the magnitude output. -/
  magW : Nat
  /-- PRESS_W: the width of PRESS. -/
  pressW : Nat
  /-- ARB: arbitration among simultaneously pending notifications. -/
  arb : Arb
  deriving DecidableEq, Repr

/-- PRESS_MAX = 2^PRESS_W - 1 (R5). -/
def Config.pressMax (c : Config) : Nat := 2 ^ c.pressW - 1

/-- TICK_W (R5). -/
def Config.tickW (c : Config) : Nat := max 1 (clog2 c.tps)

/-- ELAPSED_W (R5). -/
def Config.elapsedW (c : Config) : Nat := max 1 (clog2 c.period)

/-- COOL_W (R5). -/
def Config.coolW (c : Config) : Nat := clog2 (c.top + 1)

/-- CFG_REF of R5, the values of the source's one scenario. DESIGN CHOICE (log 2): the spec gives M and MAG_W no value; 1 and 1
stand in for them here. No statement rests on these numbers: statements are about every configuration a state carries. -/
def Config.reference : Config :=
  { tps := 50, period := 20, top := 50, guard := 10, m := 1, magW := 1, pressW := 8, arb := .free }

/-- CFG_SMALL of R5, the spec's test configuration (M and MAG_W as in `Config.reference`). -/
def Config.small : Config :=
  { Config.reference with tps := 2, period := 3, top := 4, guard := 1 }

/-- FREE VALUE (R109 with ARB = free; log 10): the arbiter's n-th free choice, taken modulo the number of candidates. Nothing
constrains it. -/
opaque Config.freeChoice : Nat → Nat

/-- FREE VALUE (60_exceptions.md R105; log 8): the n-th turn beyond those a state lists. Which agent moves next is not the block's to say
and the sequence has no end; nothing constrains it. -/
opaque Config.freeTurn : Nat → Turn

end Sys2Proof
end

