-- ==== Sys2Proof/Syntax.lean ====
section
/-! DEFINITION. The operations of 00_scope.md R9, one constructor for each mnemonic of spec/opcode_table.json, and the names around
them: phases, dispatch actions, events, trace letters. -/

namespace Sys2Proof

/-- The operations (R9). `dNop` carries the selector that chose it: its seven table rows are one mnemonic (30 R45, log 15). -/
inductive Instr where
  | idle
  | tick
  | edgeA
  | edgeB
  | tb
  | ind
  | auto
  | deb
  | dStop
  | dReset
  | dSpin
  | dNop (sel : Nat)
  | dispatch
  | reset
  | start
  | notifyT
  | notifyA
  | notifyB
  deriving DecidableEq, Repr

/-- The four phases of TICK in their fixed order (10_state.md R17). -/
inductive Phase where
  | tb
  | ind
  | auto
  | deb
  deriving DecidableEq, Repr

/-- The four dispatch actions, the four-constructor type of 43_debounce_dispatch.md R92. -/
inductive Action where
  | dStop
  | dReset
  | dSpin
  | dNop
  deriving DecidableEq, Repr

/-- What one step performs (the step relation of R105): an occurrence on a pin, serve(x), idle, or, while IE = 0, nothing (R132). -/
inductive Event where
  | pin (p : Pin)
  | serve (x : Source)
  | idle
  | held
  deriving DecidableEq, Repr

/-- The trace letters of 30_encoding.md R43, R52. -/
inductive Letter where
  | i
  | t
  | a
  | b
  deriving DecidableEq, Repr

/-- The operation an occurrence on a pin performs (R31, R51). -/
def Pin.instr : Pin → Instr
  | .evT => .notifyT
  | .evA => .notifyA
  | .evB => .notifyB
  | .rst => .reset
  | .start => .start

/-- The pin on which a source notifies (R31). -/
def Source.pin : Source → Pin
  | .t => .evT
  | .a => .evA
  | .b => .evB

/-- The event `notify(x)` as an operation (60 R106). -/
def Source.notify (x : Source) : Instr := x.pin.instr

/-- The operation a trace letter stands for (R43). -/
def Letter.instr : Letter → Instr
  | .i => .idle
  | .t => .tick
  | .a => .edgeA
  | .b => .edgeB

/-- The source that a letter serves; `I` serves none (R43, R104). -/
def Letter.source : Letter → Option Source
  | .i => none
  | .t => some .t
  | .a => some .a
  | .b => some .b

/-- The letter a step adds to the trace of a run: "the sequence of its serve and idle steps" (R105). -/
def Event.letter : Event → Option Letter
  | .pin _ => none
  | .serve .t => some .t
  | .serve .a => some .a
  | .serve .b => some .b
  | .idle => some .i
  | .held => none

/-- Each operation's mnemonic in spec/opcode_table.json. -/
def Instr.mnemonic : Instr → String
  | .idle => "IDLE"
  | .tick => "TICK"
  | .edgeA => "EDGE_A"
  | .edgeB => "EDGE_B"
  | .tb => "TB"
  | .ind => "IND"
  | .auto => "AUTO"
  | .deb => "DEB"
  | .dStop => "D_STOP"
  | .dReset => "D_RESET"
  | .dSpin => "D_SPIN"
  | .dNop _ => "D_NOP"
  | .dispatch => "DISPATCH"
  | .reset => "RESET"
  | .start => "START"
  | .notifyT => "notify(T)"
  | .notifyA => "notify(A)"
  | .notifyB => "notify(B)"

end Sys2Proof
end

