-- ==== Sys2Proof/WellFormed.lean ====
section
/-! DEFINITION. What is well formed: a configuration (00_scope.md R5, R6) and an operation (30_encoding.md R45). -/

namespace Sys2Proof

/-- ARB is `free` or a TOTAL order of the three sources (R5). -/
def Arb.wf : Arb → Bool
  | .free => true
  | .order p q r => p != q && p != r && q != r

/-- The constraints of R5, one conjunct each. A configuration that breaks one is ill-formed and is refused (R6). -/
def Config.wf (c : Config) : Bool :=
  decide (1 ≤ c.tps) &&
  decide (1 ≤ c.period) &&
  decide (1 ≤ c.top) &&
  decide (c.guard < c.top) &&
  decide (1 ≤ c.m) &&
  decide (c.m ≤ 2 ^ c.magW - 1) &&
  decide (1 ≤ c.magW) &&
  decide (3 ≤ c.pressW) &&
  c.arb.wf

/-- An operation is well formed for a width of PRESS when `dNop` carries a selector of that width that is not 1, 2 or 3 (R45). -/
def Instr.wf (pressW : Nat) : Instr → Bool
  | .dNop sel => sel != 1 && sel != 2 && sel != 3 && decide (sel < 2 ^ pressW)
  | .idle => true
  | .tick => true
  | .edgeA => true
  | .edgeB => true
  | .tb => true
  | .ind => true
  | .auto => true
  | .deb => true
  | .dStop => true
  | .dReset => true
  | .dSpin => true
  | .dispatch => true
  | .reset => true
  | .start => true
  | .notifyT => true
  | .notifyA => true
  | .notifyB => true

end Sys2Proof
end

