-- ==== Sys2Proof/Decode.lean ====
section
/-! DEFINITION. The decoder and encoder of 30_encoding.md: formats OP, PH and DS, the opcode table's rows, and traces. -/

namespace Sys2Proof

/-- The three formats (R42). -/
inductive Format where
  | op
  | ph
  | ds
  deriving DecidableEq, Repr

/-- A code word: its bits as an unsigned number, and where it comes from. R42: "A decoder tells the format from where the word comes
(the arbiter's grant, the sequencer, the PRESS register), never from the word." -/
structure CodeWord where
  format : Format
  bits : Nat
  deriving DecidableEq, Repr

/-- The one refusal of the decoder: a number with more bits than the format has. No word OF a format is refused (R50). -/
inductive DecodeRefusal where
  | tooWide
  deriving DecidableEq, Repr

/-- The length of each format in bits (R42). -/
def Format.width (pressW : Nat) : Format → Nat
  | .op => 2
  | .ph => 2
  | .ds => pressW

/-- The bits fit the format's length. -/
def CodeWord.fits (pressW : Nat) (w : CodeWord) : Bool :=
  decide (w.bits < 2 ^ w.format.width pressW)

/-- Format OP (R43). -/
def decodeOp (c : Code) : Instr :=
  match c.toFin with
  | 0 => .idle
  | 1 => .tick
  | 2 => .edgeA
  | 3 => .edgeB

/-- Format PH (R44): the phase. -/
def decodePhase (c : Code) : Phase :=
  match c.toFin with
  | 0 => .tb
  | 1 => .ind
  | 2 => .auto
  | 3 => .deb

/-- A phase as an operation. -/
def Phase.instr : Phase → Instr
  | .tb => .tb
  | .ind => .ind
  | .auto => .auto
  | .deb => .deb

/-- Format DS (R45, R92): the total map from a press count to an action, D_NOP its explicit last arm. -/
def selectAction (sel : Nat) : Action :=
  match sel with
  | 1 => .dStop
  | 2 => .dReset
  | 3 => .dSpin
  | _ => .dNop

/-- An action as an operation, with the selector that chose it. -/
def Action.instr (sel : Nat) : Action → Instr
  | .dStop => .dStop
  | .dReset => .dReset
  | .dSpin => .dSpin
  | .dNop => .dNop sel

/-- The decoder, total on every word of every format (R50); a number too long for its format is refused by name. -/
def decode (pressW : Nat) (w : CodeWord) : Except DecodeRefusal Instr :=
  if w.fits pressW then
    match w.format with
    | .op => .ok (decodeOp (BitVec.ofNat 2 w.bits))
    | .ph => .ok (decodePhase (BitVec.ofNat 2 w.bits)).instr
    | .ds => .ok ((selectAction w.bits).instr w.bits)
  else .error .tooWide

/-- The OP code of each trace letter (R43). -/
def Letter.code : Letter → Code
  | .i => 0b00#2
  | .t => 0b01#2
  | .a => 0b10#2
  | .b => 0b11#2

/-- The letter of an OP code (R43). -/
def letterOf (c : Code) : Letter :=
  match c.toFin with
  | 0 => .i
  | 1 => .t
  | 2 => .a
  | 3 => .b

/-- The PH code of each phase (R44). -/
def Phase.code : Phase → Code
  | .tb => 0b00#2
  | .ind => 0b01#2
  | .auto => 0b10#2
  | .deb => 0b11#2

/-- The OP code the arbiter puts out for a grant, `00` when nothing is pending (60_exceptions.md R109). -/
def opCode : Option Source → Code
  | none => 0b00#2
  | some .t => 0b01#2
  | some .a => 0b10#2
  | some .b => 0b11#2

/-- The encoder, written from the tables of R43 to R45. The pins and DISPATCH have no code (R51). -/
def encode : Instr → Option CodeWord
  | .idle => some { format := .op, bits := 0 }
  | .tick => some { format := .op, bits := 1 }
  | .edgeA => some { format := .op, bits := 2 }
  | .edgeB => some { format := .op, bits := 3 }
  | .tb => some { format := .ph, bits := 0 }
  | .ind => some { format := .ph, bits := 1 }
  | .auto => some { format := .ph, bits := 2 }
  | .deb => some { format := .ph, bits := 3 }
  | .dStop => some { format := .ds, bits := 1 }
  | .dReset => some { format := .ds, bits := 2 }
  | .dSpin => some { format := .ds, bits := 3 }
  | .dNop sel => some { format := .ds, bits := sel }
  | .dispatch => none
  | .reset => none
  | .start => none
  | .notifyT => none
  | .notifyA => none
  | .notifyB => none

/-- A row of the opcode table: a word `w` of the row's format selects it when `w AND mask = pattern` (R51). -/
structure Row where
  mnemonic : String
  format : Format
  pattern : Nat
  mask : Nat
  deriving DecidableEq, Repr

/-- R51's selection. -/
def Row.selects (r : Row) (w : CodeWord) : Bool :=
  r.format == w.format && w.bits &&& r.mask == r.pattern

/-- The rows of formats OP, PH and DS for PRESS_W = 8 (R43, R44, R45, R51), as spec/opcode_table.json lists them. -/
def opcodeRows : List Row :=
  [ { mnemonic := "IDLE", format := .op, pattern := 0x0, mask := 0x3 },
    { mnemonic := "TICK", format := .op, pattern := 0x1, mask := 0x3 },
    { mnemonic := "EDGE_A", format := .op, pattern := 0x2, mask := 0x3 },
    { mnemonic := "EDGE_B", format := .op, pattern := 0x3, mask := 0x3 },
    { mnemonic := "TB", format := .ph, pattern := 0x0, mask := 0x3 },
    { mnemonic := "IND", format := .ph, pattern := 0x1, mask := 0x3 },
    { mnemonic := "AUTO", format := .ph, pattern := 0x2, mask := 0x3 },
    { mnemonic := "DEB", format := .ph, pattern := 0x3, mask := 0x3 },
    { mnemonic := "D_STOP", format := .ds, pattern := 0x01, mask := 0xFF },
    { mnemonic := "D_RESET", format := .ds, pattern := 0x02, mask := 0xFF },
    { mnemonic := "D_SPIN", format := .ds, pattern := 0x03, mask := 0xFF },
    { mnemonic := "D_NOP", format := .ds, pattern := 0x04, mask := 0xFC },
    { mnemonic := "D_NOP", format := .ds, pattern := 0x08, mask := 0xF8 },
    { mnemonic := "D_NOP", format := .ds, pattern := 0x10, mask := 0xF0 },
    { mnemonic := "D_NOP", format := .ds, pattern := 0x20, mask := 0xE0 },
    { mnemonic := "D_NOP", format := .ds, pattern := 0x40, mask := 0xC0 },
    { mnemonic := "D_NOP", format := .ds, pattern := 0x80, mask := 0x80 },
    { mnemonic := "D_NOP", format := .ds, pattern := 0x00, mask := 0xFF } ]

/-- A trace as one number: its OP codes, the first operation most significant (R52). -/
def encodeTrace : List Letter → Nat
  | [] => 0
  | l :: rest => l.code.toNat * 4 ^ rest.length + encodeTrace rest

/-- The trace of `n` operations that a number encodes; `none` where the number has more than `2 n` bits. -/
def decodeTrace : Nat → Nat → Option (List Letter)
  | 0, w => if w = 0 then some [] else none
  | n + 1, w =>
    if w < 4 ^ (n + 1) then
      (decodeTrace n (w % 4 ^ n)).map (letterOf (BitVec.ofNat 2 (w / 4 ^ n)) :: ·)
    else none

/-- The host's question: the operation a bare table word stands for. A word 0 to 3 of one byte is a word of all three formats, and
R42 tells the format only from where the word comes; what `step` fetches is the arbiter's grant, so OP is read first, and any other
word of at most 8 bits is a DS selector (PRESS_W = 8 as in the table). DESIGN CHOICE, log 14. -/
def decodeTableWord (nbits w : Nat) : Option Instr :=
  if w < 4 then (decode 8 { format := .op, bits := w }).toOption
  else if w < 2 ^ min nbits 8 then (decode 8 { format := .ds, bits := w }).toOption
  else none

end Sys2Proof
end

