-- ==== Sys2Proof/Machine/State.lean ====
section
/-! DEFINITION. The machine's state (10_state.md R10 to R26), its reset value (R25), and the reasons a step can stop. -/

namespace Sys2Proof.Machine

/-- Everything the spec gives the block, as plain data. -/
structure State where
  /-- CFG of R5, read-only (R7, R22). The model carries it here so that a statement about every state is about every
  configuration (log 1). -/
  cfg : Config
  /-- TICKCNT (R11). -/
  tickcnt : Nat
  /-- ELAPSED (R12). -/
  elapsed : Nat
  /-- PRESS (R13). -/
  press : Nat
  /-- COOL (R14). -/
  cool : Nat
  /-- DRV (R15): true is Driving. -/
  drv : Bool
  /-- LIT (R16): true is lit. -/
  lit : Bool
  /-- PEND_T (R20). -/
  pendT : Bool
  /-- PEND_A (R20). -/
  pendA : Bool
  /-- PEND_B (R20). -/
  pendB : Bool
  /-- IE (R21). -/
  ie : Bool
  /-- SEQ (R17): `none` is at rest; it is away from rest only inside TICK (log 6). -/
  seq : Option Phase
  /-- The transient signal cycle_complete (R18), false between operations (log 5). -/
  cycleComplete : Bool
  /-- The transient signal accept (R18), false between operations (log 5). -/
  accept : Bool
  /-- The transient signal fire (R18), false between operations (log 5). -/
  fire : Bool
  /-- The MODEL's own: the turns that come next, as far as they are given; beyond them each turn is a free value (R105, log 8). -/
  agenda : List Turn
  /-- The MODEL's own: how many free turns have been drawn (R105, log 8). -/
  turnIdx : Nat
  /-- The MODEL's own: how many free choices the arbiter has drawn (R109, log 10). -/
  freeIdx : Nat
  deriving DecidableEq, Repr

/-- The block has no fault: "No error type exists in this domain" (60_exceptions.md R100). No constructor, so no step can answer
`fault`; that is exact, neither safe nor unsafe (log 18). -/
inductive Fault where
  deriving DecidableEq, Repr

/-- Why a step or an operation has no meaning. -/
inductive Refusal where
  /-- Raised by an arm of `exec` whose operation has no meaning in this model (none is left). Safe: nothing can be proved of it. -/
  | notModelled (mnemonic : String)
  /-- Raised by `step` and by every meaning when the configuration breaks a constraint of R5: "the spec gives an ill-formed
  configuration no behaviour at all: a model refuses it" (R6). Safe: nothing can be proved of it. -/
  | illFormedConfig
  deriving DecidableEq, Repr

/-- The state after RESET under a configuration (R25, R130). -/
def State.resetWith (c : Config) : State :=
  { cfg := c, tickcnt := 0, elapsed := 0, press := 0, cool := 0, drv := false, lit := false,
    pendT := false, pendA := false, pendB := false, ie := false, seq := none,
    cycleComplete := false, accept := false, fire := false, agenda := [], turnIdx := 0, freeIdx := 0 }

/-- The machine right after reset (R25), in the reference configuration (R5; DESIGN CHOICE, logs 2 and 3), with nothing said of the turns to
come. -/
def State.reset : State := State.resetWith Config.reference

/-- The launch state of R134: after START from RESET, no notification latched. -/
def State.launch (c : Config) : State := { State.resetWith c with ie := true }

end Sys2Proof.Machine
end

