-- ==== Sys2Proof/Machine/Operands.lean ====
section
/-! DEFINITION. The values operations use: the constants of 30_encoding.md R49, the functions sat_inc, blink and mag, the ports. -/

namespace Sys2Proof.Machine

/-- THRESH = TOP - GUARD (R5, R49). -/
def thresh (c : Config) : Nat := c.top - c.guard

/-- `sat_inc` (00_scope.md R8; 43_debounce_dispatch.md R82). -/
def satInc (c : Config) (v : Nat) : Nat :=
  if v < c.pressMax then v + 1 else c.pressMax

/-- The blink table (30_encoding.md R48; 41_indicator.md R70, R71): lit in seconds 1 and 3 only. -/
def blink (e : Nat) : Bool := e == 1 || e == 3

/-- `mag(DRV)` (10_state.md R15): M when Driving, 0 when Idle. -/
def mag (c : Config) (d : Bool) : Nat := if d then c.m else 0

/-- The port IND_OUT, always equal to LIT (20_memory.md R31; 30_encoding.md R46: 1 is lit). -/
def indOut (s : State) : BitVec 1 := BitVec.ofBool s.lit

/-- The port ACT_OUT, `zext(mag(DRV))` on MAG_W bits (20_memory.md R31; 30_encoding.md R47). -/
def actOut (s : State) : BitVec s.cfg.magW := BitVec.ofNat s.cfg.magW (mag s.cfg s.drv)

/-- The pending latch of a source (10_state.md R20). -/
def pend (s : State) : Source → Bool
  | .t => s.pendT
  | .a => s.pendA
  | .b => s.pendB

/-- The next ELAPSED when a second completes: explicit wrap at PERIOD (40_tick_time_base.md R62). -/
def nextSecond (c : Config) (e : Nat) : Nat := if e + 1 = c.period then 0 else e + 1

/-- Format DS: the word PRESS puts out (30_encoding.md R45). -/
def selector (s : State) : CodeWord := { format := .ds, bits := s.press }

end Sys2Proof.Machine
end

