-- ==== Sys2Proof/Machine/Flags.lean ====
section
/-! DEFINITION. The three transient condition signals of 10_state.md R18: how each is computed. There is no other flag. -/

namespace Sys2Proof.Machine

/-- TICKCNT "reaches ticks-per-second" on this tick: the comparison is made on the incremented value (40_tick_time_base.md R62). -/
def secondWraps (s : State) : Bool := s.tickcnt + 1 == s.cfg.tps

/-- cycle_complete: "1 exactly when ELAPSED wrapped from PERIOD - 1 to 0 in this TICK" (R18, R62). -/
def cycleCompleteOf (s : State) : Bool := secondWraps s && s.elapsed + 1 == s.cfg.period

/-- accept: "1 exactly when COOL < THRESH at the start of EDGE_A" (R18; 43_debounce_dispatch.md R80), an unsigned compare. -/
def acceptOf (s : State) : Bool := decide (s.cool < thresh s.cfg)

/-- fire: "1 exactly when COOL = 0 and PRESS > 0 at the start of DEB" (R18; 43_debounce_dispatch.md R84). -/
def fireOf (s : State) : Bool := s.cool == 0 && decide (0 < s.press)

end Sys2Proof.Machine
end

