-- ==== Sys2Proof/Machine/Ops.lean ====
section
/-! DEFINITION. The named operations on the registers, the form every meaning has, and entry to and return from a served operation
(60_exceptions.md R111, R112), which stand where taking an exception and returning from it stand in other hardware. -/

namespace Sys2Proof.Machine

/-- `TICKCNT <- v`. -/
def setTickcnt (v : Nat) (s : State) : State := { s with tickcnt := v }

/-- `ELAPSED <- v`. -/
def setElapsed (v : Nat) (s : State) : State := { s with elapsed := v }

/-- `PRESS <- v`. -/
def setPress (v : Nat) (s : State) : State := { s with press := v }

/-- `COOL <- v`. -/
def setCool (v : Nat) (s : State) : State := { s with cool := v }

/-- The actuator output primitive `actuator(d)`: `DRV <- d` (42_actuator.md R79). -/
def actuator (d : Bool) (s : State) : State := { s with drv := d }

/-- The indicator output primitive `indicator(b)`: `LIT <- b` (00_scope.md R8). -/
def indicator (b : Bool) (s : State) : State := { s with lit := b }

/-- `PEND_x <- b` (10_state.md R20). -/
def setPend (x : Source) (b : Bool) (s : State) : State :=
  { s with
    pendT := if x = .t then b else s.pendT
    pendA := if x = .a then b else s.pendA
    pendB := if x = .b then b else s.pendB }

/-- `IE <- b` (10_state.md R21). -/
def setIe (b : Bool) (s : State) : State := { s with ie := b }

/-- The sequencer moves (10_state.md R17). -/
def setSeq (p : Option Phase) (s : State) : State := { s with seq := p }

/-- `cycle_complete <- b` (R18). -/
def setCycleComplete (b : Bool) (s : State) : State := { s with cycleComplete := b }

/-- `accept <- b` (R18). -/
def setAccept (b : Bool) (s : State) : State := { s with accept := b }

/-- `fire <- b` (R18). -/
def setFire (b : Bool) (s : State) : State := { s with fire := b }

/-- R18: "At the start of every operation all three are 0. None survives the operation". -/
def clearSignals (s : State) : State := { s with cycleComplete := false, accept := false, fire := false }

/-- The turns that come next are given (log 8). -/
def setAgenda (l : List Turn) (s : State) : State := { s with agenda := l }

/-- Whose turn it is: the head of the agenda, and past its end a free value (R105, log 8). -/
def nextTurn (s : State) : Turn :=
  match s.agenda with
  | [] => Config.freeTurn s.turnIdx
  | t :: _ => t

/-- That turn is used up. -/
def useTurn (s : State) : State :=
  match s.agenda with
  | [] => { s with turnIdx := s.turnIdx + 1 }
  | _ :: rest => { s with agenda := rest }

/-- The arbiter has drawn one free choice (log 10). -/
def bumpFree (s : State) : State := { s with freeIdx := s.freeIdx + 1 }

/-- The form of every meaning: total and never failing under a well-formed configuration (60 R100), refused under an ill-formed one
(00 R6, log 19). -/
def perform (f : State → State) (s : State) : Host.Outcome State Fault Refusal :=
  if s.cfg.wf then .next (f s) else .refused .illFormedConfig

/-- A top-level operation: the transient signals are 0 at its start and do not survive it (R18). -/
def operation (f : State → State) (s : State) : State := clearSignals (f (clearSignals s))

/-- One stop of the sequencer: SEQ names the phase while the phase runs (R17). -/
def runPhase (p : Phase) (f : State → State) (s : State) : State := f (setSeq (some p) s)

/-- What follows a next state; a stop stays a stop. -/
def andThen (o : Host.Outcome State Fault Refusal) (f : State → State) : Host.Outcome State Fault Refusal :=
  match o with
  | .next t => .next (f t)
  | .fault r => .fault r
  | .refused r => .refused r

/-- Entry (60_exceptions.md R111): the source's latch is cleared, IE is cleared, nothing is saved. -/
def enter (x : Source) (s : State) : State := setIe false (setPend x false s)

/-- Return (60_exceptions.md R112): IE is set, nothing is restored. -/
def leave (s : State) : State := setIe true s

/-- RESET (70_reset_and_hazards.md R130): every register at its reset value, the configuration unchanged (R22). What is the model's
own and not the block's (the agenda, the counts of free turns and of free choices) goes on (log 12). -/
def toReset (s : State) : State :=
  { State.resetWith s.cfg with agenda := s.agenda, turnIdx := s.turnIdx, freeIdx := s.freeIdx }

end Sys2Proof.Machine
end

