-- ==== Sys2Proof/Machine/Pins.lean ====
section
/-! DEFINITION. The host's and the environment's operations: RESET, START (70_reset_and_hazards.md R130, R133) and notify
(60_exceptions.md R106). -/

namespace Sys2Proof.Machine

/-- RESET (R130), enabled in every state. -/
def execReset (s : State) : Host.Outcome State Fault Refusal := perform toReset s

/-- START (R133): `IE <- 1` and nothing else. -/
def execStart (s : State) : Host.Outcome State Fault Refusal := perform (setIe true) s

/-- notify(T) (R106): sets the latch, one absorbing bit, whatever IE is. -/
def execNotifyT (s : State) : Host.Outcome State Fault Refusal := perform (setPend .t true) s

/-- notify(A) (R106). -/
def execNotifyA (s : State) : Host.Outcome State Fault Refusal := perform (setPend .a true) s

/-- notify(B) (R106). -/
def execNotifyB (s : State) : Host.Outcome State Fault Refusal := perform (setPend .b true) s

end Sys2Proof.Machine
end

