-- ==== Sys2Proof/Machine/StopIdle.lean ====
section
/-! DEFINITION. The Stop Input Handler and the idle loop: EDGE_B and IDLE (44_stop_and_idle.md R95, R97). -/

namespace Sys2Proof.Machine

/-- EDGE_B (R95): `actuator(0)`, unconditionally, and nothing else. -/
def execEdgeB (s : State) : Host.Outcome State Fault Refusal := perform (operation (actuator false)) s

/-- IDLE (R97): "a true no-op"; the state after equals the state before, in every register. -/
def execIdle (s : State) : Host.Outcome State Fault Refusal := perform id s

end Sys2Proof.Machine
end

