-- ==== Sys2Proof/Machine/Actuator.lean ====
section
/-! DEFINITION. Phase 2 of TICK, the Actuator Cycle Controller: AUTO (42_actuator.md R75). -/

namespace Sys2Proof.Machine

/-- R75: trigger only on cycle complete and only from Idle. -/
def autoPhase (s : State) : State :=
  if s.cycleComplete && !s.drv then actuator true s else s

/-- AUTO (R75). -/
def execAuto (s : State) : Host.Outcome State Fault Refusal := perform autoPhase s

end Sys2Proof.Machine
end

