-- ==== Sys2Proof/Machine/Debounce.lean ====
section
/-! DEFINITION. Input Debounce and Dispatch (43_debounce_dispatch.md): EDGE_A, DEB, DISPATCH and the four dispatch actions. -/

namespace Sys2Proof.Machine

/-- R80: the accepted edge. -/
def edgeAOp (s : State) : State :=
  let s := setAccept (acceptOf s) s
  if s.accept then setCool s.cfg.top (setPress (satInc s.cfg s.press) s) else s

/-- R88: `actuator(0)`. -/
def dStopOp (s : State) : State := actuator false s

/-- R89: `ELAPSED <- 0`, and nothing else: neither TICKCNT nor DRV nor `cycle_complete`. -/
def dResetOp (s : State) : State := setElapsed 0 s

/-- R90: `actuator(1)`. -/
def dSpinOp (s : State) : State := actuator true s

/-- R91: nothing. -/
def dNopOp (s : State) : State := s

/-- One action (R88 to R91). -/
def runAction : Action → State → State
  | .dStop => dStopOp
  | .dReset => dResetOp
  | .dSpin => dSpinOp
  | .dNop => dNopOp

/-- R86: the action PRESS selects, then `PRESS <- 0` whatever it was. -/
def dispatchOp (s : State) : State :=
  setPress 0 (runAction (selectAction s.press) s)

/-- R84: the countdown or the dispatch, never both; the test is on COOL at the start of the phase (90_conflicts.md C1). -/
def debPhase (s : State) : State :=
  let s := setFire (fireOf s) s
  if 0 < s.cool then setCool (s.cool - 1) s
  else if s.fire then dispatchOp s
  else s

/-- EDGE_A (R80). -/
def execEdgeA (s : State) : Host.Outcome State Fault Refusal := perform (operation edgeAOp) s

/-- DEB (R84). -/
def execDeb (s : State) : Host.Outcome State Fault Refusal := perform debPhase s

/-- DISPATCH (R86). -/
def execDispatch (s : State) : Host.Outcome State Fault Refusal := perform dispatchOp s

/-- D_STOP (R88). -/
def execDStop (s : State) : Host.Outcome State Fault Refusal := perform dStopOp s

/-- D_RESET (R89). -/
def execDReset (s : State) : Host.Outcome State Fault Refusal := perform dResetOp s

/-- D_SPIN (R90). -/
def execDSpin (s : State) : Host.Outcome State Fault Refusal := perform dSpinOp s

/-- D_NOP (R91): the selector that chose it has no further meaning (30 R45). -/
def execDNop (_sel : Nat) (s : State) : Host.Outcome State Fault Refusal := perform dNopOp s

end Sys2Proof.Machine
end

