-- ==== Sys2Proof/Machine/Indicator.lean ====
section
/-! DEFINITION. Phase 1 of TICK, the Indicator: IND (41_indicator.md R70). -/

namespace Sys2Proof.Machine

/-- R70: `indicator(blink(ELAPSED))`. -/
def indPhase (s : State) : State := indicator (blink s.elapsed) s

/-- IND (R70). -/
def execInd (s : State) : Host.Outcome State Fault Refusal := perform indPhase s

end Sys2Proof.Machine
end

