-- ==== Sys2Proof/Machine/TimeBase.lean ====
section
/-! DEFINITION. Phase 0 of TICK, the Time Base: TB (40_tick_time_base.md R62). -/

namespace Sys2Proof.Machine

/-- R62's pseudocode. The comparisons are on the incremented values; `cycle_complete` is 1 exactly when both counters wrap. -/
def tbPhase (s : State) : State :=
  setCycleComplete (cycleCompleteOf s)
    (if secondWraps s then setTickcnt 0 (setElapsed (nextSecond s.cfg s.elapsed) s)
     else setTickcnt (s.tickcnt + 1) s)

/-- TB (R62). -/
def execTb (s : State) : Host.Outcome State Fault Refusal := perform tbPhase s

end Sys2Proof.Machine
end

