-- ==== Sys2Proof/Machine/Tick.lean ====
section
/-! DEFINITION. The periodic tick handler: TICK (40_tick_time_base.md R60). -/

namespace Sys2Proof.Machine

/-- R60, R17: the sequencer visits TB, IND, AUTO, DEB in that order and returns to rest. -/
def fourPhases (s : State) : State :=
  let s1 := runPhase .tb tbPhase s
  let s2 := runPhase .ind indPhase s1
  let s3 := runPhase .auto autoPhase s2
  let s4 := runPhase .deb debPhase s3
  setSeq none s4

/-- TICK (R60). -/
def execTick (s : State) : Host.Outcome State Fault Refusal := perform (operation fourPhases) s

end Sys2Proof.Machine
end

