-- ==== Sys2Proof/Machine/Dispatch.lean ====
section
/-! DEFINITION. One arm per operation. -/

namespace Sys2Proof.Machine

open Sys2Proof

def exec (i : Instr) (s : State) : Host.Outcome State Fault Refusal :=
  match i with
  | .idle => Sys2Proof.Machine.execIdle s
  | .tick => Sys2Proof.Machine.execTick s
  | .edgeA => Sys2Proof.Machine.execEdgeA s
  | .edgeB => Sys2Proof.Machine.execEdgeB s
  | .tb => Sys2Proof.Machine.execTb s
  | .ind => Sys2Proof.Machine.execInd s
  | .auto => Sys2Proof.Machine.execAuto s
  | .deb => Sys2Proof.Machine.execDeb s
  | .dStop => Sys2Proof.Machine.execDStop s
  | .dReset => Sys2Proof.Machine.execDReset s
  | .dSpin => Sys2Proof.Machine.execDSpin s
  | .dNop sel => Sys2Proof.Machine.execDNop sel s
  | .dispatch => Sys2Proof.Machine.execDispatch s
  | .reset => Sys2Proof.Machine.execReset s
  | .start => Sys2Proof.Machine.execStart s
  | .notifyT => Sys2Proof.Machine.execNotifyT s
  | .notifyA => Sys2Proof.Machine.execNotifyA s
  | .notifyB => Sys2Proof.Machine.execNotifyB s

end Sys2Proof.Machine
end

