-- ==== Sys2Proof/Machine/Collator.lean ====
section
/-! DEFINITION. The collator (60_exceptions.md): the arbiter, serving a notification, and one turn of the step relation of R105. -/

namespace Sys2Proof.Machine

/-- The sources of higher priority than `x` under ARB (R109); none when ARB is free. -/
def higher (arb : Arb) (x : Source) : List Source :=
  match arb with
  | .free => []
  | .order p q _ => if x = p then [] else if x = q then [p] else [p, q]

/-- `arb_allows(x)` (R109): no source of higher priority than `x` is pending. -/
def arbAllows (s : State) (x : Source) : Bool :=
  (higher s.cfg.arb x).all fun y => !pend s y

/-- serve(x) is enabled (R105): IE = 1 and PEND_x = 1 and arb_allows(x). -/
def serveEnabled (s : State) (x : Source) : Bool := s.ie && pend s x && arbAllows s x

/-- idle is enabled (R105): IE = 1 and no latch is set. -/
def idleEnabled (s : State) : Bool := s.ie && !s.pendT && !s.pendA && !s.pendB

/-- The sources the arbiter may serve next. -/
def candidates (s : State) : List Source :=
  [Source.t, Source.a, Source.b].filter fun x => pend s x && arbAllows s x

/-- The arbiter's pick among the candidates, were its free choice `n` (R109): with ARB = free and several sources pending every one of
them is the pick of some `n`; with a lone candidate `n` plays no part. -/
def pick (n : Nat) (s : State) : Option Source :=
  match candidates s with
  | [] => none
  | [x] => some x
  | x :: y :: rest => some ((x :: y :: rest).getD (n % (rest.length + 2)) x)

/-- The arbiter (R109): its pick, the choice being a free value (log 10). -/
def grant (s : State) : Option Source := pick (Config.freeChoice s.freeIdx) s

/-- A grant among several candidates draws one free choice (log 10). -/
def afterGrant (s : State) : State :=
  if 2 ≤ (candidates s).length then bumpFree s else s

/-- The fetch: "The arbiter outputs the OP code of the source it picked, or 00 when nothing is pending" (R109). -/
def fetch (s : State) : Code := opCode (grant s)

/-- serve(x) (R105, R111, R112): entry, the operation its OP code names (R108), return. -/
def serve (x : Source) (s : State) : Host.Outcome State Fault Refusal :=
  andThen (exec (decodeOp (opCode (some x))) (enter x s)) leave

/-- What the next step performs: the environment or the host, if the turn is theirs, else the dispatcher, which serves a granted
source, idles, or is held while IE = 0 (R105, R132; logs 8 and 9). -/
def nextEvent (s : State) : Event :=
  match nextTurn s with
  | .pin p => .pin p
  | .dispatcher =>
    if s.ie then
      match grant s with
      | some x => .serve x
      | none => .idle
    else .held

/-- The steps of R105. -/
def runEvent (e : Event) (s : State) : Host.Outcome State Fault Refusal :=
  match e with
  | .pin p => exec p.instr s
  | .serve x => serve x (afterGrant s)
  | .idle => exec (decodeOp (opCode none)) s
  | .held => .next s

/-- One turn: it is used up, and its event is performed. -/
def takeTurn (s : State) : Host.Outcome State Fault Refusal := runEvent (nextEvent s) (useTurn s)

/-- IE = 1, no latch set and the turn the dispatcher's: it moves next and finds nothing pending. -/
def quiet (s : State) : State :=
  setAgenda [.dispatcher] (setIe true (setPend .t false (setPend .a false (setPend .b false s))))

/-- A dispatch of the selector `sel` is due in the next TICK (43_debounce_dispatch.md R84, R86). -/
def dueDispatch (sel : Nat) (s : State) : State :=
  setPress sel (setCool 0 (setPend .t true (quiet s)))

/-- The least change after which the very next step runs the operation (log 13): its latch set, or its pin on the agenda; for what
runs inside TICK, the tick latch set, and for a dispatch action the count that selects it with the window drained. -/
def prepare (i : Instr) (s : State) : State :=
  match i with
  | .idle => quiet s
  | .tick => setPend .t true (quiet s)
  | .edgeA => setPend .a true (quiet s)
  | .edgeB => setPend .b true (quiet s)
  | .tb => setPend .t true (quiet s)
  | .ind => setPend .t true (quiet s)
  | .auto => setPend .t true (quiet s)
  | .deb => setPend .t true (quiet s)
  | .dStop => dueDispatch 1 s
  | .dReset => dueDispatch 2 s
  | .dSpin => dueDispatch 3 s
  | .dNop sel => dueDispatch sel s
  | .dispatch => dueDispatch (max 1 s.press) s
  | .reset => setAgenda [.pin .rst] s
  | .start => setAgenda [.pin .start] s
  | .notifyT => setAgenda [.pin .evT] s
  | .notifyA => setAgenda [.pin .evA] s
  | .notifyB => setAgenda [.pin .evB] s

end Sys2Proof.Machine
end

