-- ==== Sys2Proof/Machine/Step.lean ====
section
/-! DEFINITION. One step of the whole block (60_exceptions.md R105), and the host's way to place an operation. -/

namespace Sys2Proof.Machine

/-- One step of a run: an atomic step of one of the three agents (20_memory.md R33, R37), refused under an ill-formed configuration
(00_scope.md R6). -/
def step (s : State) : Host.Outcome State Fault Refusal :=
  if s.cfg.wf then takeTurn s else .refused .illFormedConfig

/-- The host's placement: the operation a table word stands for is the one the next step runs (logs 13 and 14). -/
def State.withFetchWord (s : State) (nbits w : Nat) : State :=
  match decodeTableWord nbits w with
  | some i => prepare i s
  | none => s

end Sys2Proof.Machine
end

