-- ==== Sys2Proof/Machine/Trace.lean ====
section
/-! DEFINITION. Traces, the block's programs (30_encoding.md R52, R53): what a trace does, how it comes to be served, and the
pseudo-operations. -/

namespace Sys2Proof.Machine

/-- The operations of a trace, one after the other (R52). R52 calls a trace meaningful only from a state in which IE = 1 and gives it no
meaning from any other. DESIGN CHOICE (log 25): from IE = 0 this is the same composition of operations, which neither read nor write IE;
it is then no behaviour of the block, which serves nothing until START (R132). -/
def runTrace : List Letter → State → Host.Outcome State Fault Refusal
  | [], s => .next s
  | l :: rest, s =>
    match exec l.instr s with
    | .next t => runTrace rest t
    | .fault r => .fault r
    | .refused r => .refused r

/-- How a letter comes to be served: "the environment raises each notification just before it is served" (60_exceptions.md R105). -/
def Letter.turns (l : Letter) : List Turn :=
  match l.source with
  | none => [.dispatcher]
  | some x => [.pin x.pin, .dispatcher]

/-- The turns that make a trace the trace of a run (R105). -/
def turnsOf : List Letter → List Turn
  | [] => []
  | l :: rest => Letter.turns l ++ turnsOf rest

/-- `T^n` (R53). -/
def ticks (n : Nat) : List Letter := List.replicate n .t

/-- `SEC` (R53): one second. -/
def sec (c : Config) : List Letter := ticks c.tps

/-- `CYCLE` (R53): one full cycle. -/
def cycle (c : Config) : List Letter := ticks (c.tps * c.period)

/-- `k` more presses at the shortest accepted spacing. -/
def morePresses (c : Config) : Nat → List Letter
  | 0 => []
  | k + 1 => ticks (c.guard + 1) ++ .a :: morePresses c k

/-- `PRESS(k)`, `k >= 1` (R53): `A` followed by `k - 1` times `T^(GUARD+1) A`. -/
def presses (c : Config) (k : Nat) : List Letter := .a :: morePresses c (k - 1)

/-- `DRAIN` (R53). -/
def drain (c : Config) : List Letter := ticks (c.top + 1)

/-- "edge at tick `n`" (R53): the letter placed after exactly `n` letters `T`, behind any letter placed there before. -/
def edgeAt (x : Letter) : Nat → List Letter → List Letter
  | n, [] => ticks n ++ [x]
  | 0, .t :: rest => x :: .t :: rest
  | n + 1, .t :: rest => .t :: edgeAt x n rest
  | n, l :: rest => l :: edgeAt x n rest

end Sys2Proof.Machine
end

