-- ==== Sys2Proof/Machine/Run.lean ====
section
/-! DEFINITION. Runs of the block and the one liveness assumption of the spec, weak fairness (60_exceptions.md R105, R115), and the trace
of a run. -/

namespace Sys2Proof.Machine

/-- Which steps of R105 are enabled; the stutter of the held dispatcher (R132, log 9) exactly while IE = 0. -/
def eventEnabled (e : Event) (s : State) : Bool :=
  match e with
  | .pin _ => true
  | .serve x => serveEnabled s x
  | .idle => idleEnabled s
  | .held => !s.ie

/-- An endless sequence of states and of the events between them, event `n` after state `n`. The events are the sequence's own and come
from no list of turns, so notifications without end, and every choice of the arbiter, are among them. -/
structure Run where
  state : Nat → State
  event : Nat → Event

/-- "A run is any sequence of the steps below" (R105): each event is enabled where it happens and makes the next state. -/
def Run.Valid (r : Run) : Prop :=
  (r.state 0).cfg.wf = true ∧
    ∀ n, eventEnabled (r.event n) (r.state n) = true ∧ runEvent (r.event n) (r.state n) = .next (r.state (n + 1))

/-- Weak fairness (R115): "if `IE = 1` and a latch stays set, the notification is eventually served". A latch stays set until it is
served unless a RESET clears it (R107). "A run in which a latch is set and never served is not a run of this hardware": the runs of the
hardware are those that are `Valid` and `Fair` (log 11). -/
def Run.Fair (r : Run) : Prop :=
  ∀ n x, (r.state n).ie = true → pend (r.state n) x = true →
    ∃ m, n ≤ m ∧ (r.event m = .serve x ∨ r.event m = .pin .rst)

/-- The trace of the first `n` steps: "the sequence of its serve and idle steps, written with the letters" (R105). -/
def Run.trace (r : Run) : Nat → List Letter
  | 0 => []
  | n + 1 => r.trace n ++ (r.event n).letter.toList

/-- The trace of `n` steps of the machine from a state. -/
def stepTrace : Nat → State → List Letter
  | 0, _ => []
  | n + 1, s =>
    (nextEvent s).letter.toList ++
      match step s with
      | .next t => stepTrace n t
      | .fault _ => []
      | .refused _ => []

end Sys2Proof.Machine
end

