-- ==== Sys2Proof/Safety.lean ====
section
/-! DEFINITION. What claims speak of: the invariants of 10_state.md R24, and reading a next state out of an outcome. -/

namespace Sys2Proof.Machine

/-- R24 (a), (b), (c), (e): each counter in its range. -/
abbrev State.InRange (s : State) : Prop :=
  s.tickcnt < s.cfg.tps ∧ s.elapsed < s.cfg.period ∧ s.cool ≤ s.cfg.top ∧ s.press ≤ s.cfg.pressMax

/-- Between operations SEQ is at rest and no transient signal survives (R17, R18). -/
abbrev State.AtRest (s : State) : Prop :=
  s.seq = none ∧ s.cycleComplete = false ∧ s.accept = false ∧ s.fire = false

/-- The invariants of R24 that hold at every boundary between operations, RESET and the hold before START included. Item (d) is
`mag` itself and item (h) is a statement of its own. The last clause is what (g) leaves true after a D_RESET: LIT differs from
`blink(ELAPSED)` only when ELAPSED is 0. -/
structure State.Inv (s : State) : Prop where
  wf : s.cfg.wf = true
  inRange : s.InRange
  counted : 0 < s.cool → 0 < s.press
  atRest : s.AtRest
  litLag : s.lit = blink s.elapsed ∨ s.elapsed = 0

/-- The next state of an outcome, if it is one. -/
def nextOf (o : Host.Outcome State Fault Refusal) : Option State :=
  match o with
  | .next t => some t
  | .fault _ => none
  | .refused _ => none

/-- The next TICK runs D_RESET: the window has drained and the count is 2 (43_debounce_dispatch.md R84, R86, R89). -/
abbrev State.ResetDue (s : State) : Prop := s.cool = 0 ∧ s.press = 2

/-- Everything but the six data registers and the three transient signals agrees: what TICK and EDGE_A do not touch. -/
abbrev State.SameCollator (s t : State) : Prop :=
  t.cfg = s.cfg ∧ t.pendT = s.pendT ∧ t.pendA = s.pendA ∧ t.pendB = s.pendB ∧ t.ie = s.ie ∧
    t.agenda = s.agenda ∧ t.turnIdx = s.turnIdx ∧ t.freeIdx = s.freeIdx

/-- The next turn is the dispatcher's. -/
def State.dispatcherMoves (s : State) : Bool := nextTurn s == .dispatcher

/-- How many of the next `n` TICKs signal cycle complete (40_tick_time_base.md R63). -/
def cyclesSignalled : Nat → State → Nat
  | 0, _ => 0
  | n + 1, s =>
    (if cycleCompleteOf s then 1 else 0) +
      match exec .tick s with
      | .next t => cyclesSignalled n t
      | .fault _ => 0
      | .refused _ => 0

/-- 43_debounce_dispatch.md R82: the same machine with a PRESS as wide or wider, in the same state but that the narrower PRESS holds
the wider count saturated at its own ceiling. -/
abbrev State.SaturatedTwin (s u : State) : Prop :=
  s.cfg.pressW ≤ u.cfg.pressW ∧
    s = { u with cfg := { u.cfg with pressW := s.cfg.pressW }, press := min u.press s.cfg.pressMax }

end Sys2Proof.Machine
end

