-- ==== Sys2Proof/Certificates/Slice0/Obligations.lean ====
section
/-! DEFINITION. The statements for the provers, from the numbered rules of spec/. Every statement is about every configuration a state
carries; the premise `s.cfg.wf = true` is 00_scope.md R6, under which alone the block has a behaviour. -/

open Sys2Proof Sys2Proof.Machine

/-! ## What each operation does, and what it leaves alone -/

/-- R97: IDLE is OP code 00 and changes no register, the collator's included. -/
def Obligations.IdleChangesNothing : Prop :=
  decodeOp 0b00#2 = .idle ∧ ∀ s : State, s.cfg.wf = true → exec .idle s = .next s

/-- R60: every register after one TICK, from the registers before it; TICK leaves the collator alone (corner case (b)), and SEQ is
at rest and no signal survives (R17, R18). `e` is ELAPSED as phase TB leaves it. -/
def Obligations.TickRegisterValues : Prop :=
  ∀ (s : State) (e : Nat), s.cfg.wf = true →
    e = (if s.tickcnt + 1 = s.cfg.tps then (if s.elapsed + 1 = s.cfg.period then 0 else s.elapsed + 1) else s.elapsed) →
    ∃ t, exec .tick s = .next t ∧
      t.tickcnt = (if s.tickcnt + 1 = s.cfg.tps then 0 else s.tickcnt + 1) ∧
      t.elapsed = (if s.cool = 0 ∧ s.press = 2 then 0 else e) ∧
      t.press = (if s.cool = 0 then 0 else s.press) ∧
      t.cool = s.cool - 1 ∧
      (t.drv = true ↔
        ¬ (s.cool = 0 ∧ s.press = 1) ∧
          ((s.cool = 0 ∧ s.press = 3) ∨ (s.tickcnt + 1 = s.cfg.tps ∧ s.elapsed + 1 = s.cfg.period) ∨ s.drv = true)) ∧
      (t.lit = true ↔ e = 1 ∨ e = 3) ∧
      s.SameCollator t ∧ t.AtRest

/-- R60, R17: "As a function on states, TICK = DEB after AUTO after IND after TB", each phase seeing the writes of the ones before. -/
def Obligations.TickIsItsFourPhasesInOrder : Prop :=
  decodeOp 0b01#2 = .tick ∧
  ∀ s : State, s.cfg.wf = true → s.AtRest →
    ∃ s1 s2 s3 s4,
      exec .tb { s with seq := some .tb } = .next s1 ∧
      exec .ind { s1 with seq := some .ind } = .next s2 ∧
      exec .auto { s2 with seq := some .auto } = .next s3 ∧
      exec .deb { s3 with seq := some .deb } = .next s4 ∧
      exec .tick s = .next { s4 with seq := none, cycleComplete := false, fire := false }

/-- R80: an edge is accepted exactly when COOL < TOP - GUARD; accepted, PRESS counts (saturating, R82) and COOL is reloaded; rejected,
no register changes. Nothing else changes in either case. -/
def Obligations.EdgeAAcceptsBelowThreshold : Prop :=
  decodeOp 0b10#2 = .edgeA ∧
  ∀ s : State, s.cfg.wf = true → s.AtRest →
    (s.cool < s.cfg.top - s.cfg.guard →
      exec .edgeA s = .next
        { s with
          press := if s.press < 2 ^ s.cfg.pressW - 1 then s.press + 1 else 2 ^ s.cfg.pressW - 1
          cool := s.cfg.top }) ∧
    (s.cfg.top - s.cfg.guard ≤ s.cool → exec .edgeA s = .next s)

/-- R95: EDGE_B forces the actuator Idle whatever PRESS, COOL or the time base hold, and writes nothing else; done twice it does what
it does once, and the magnitude at the port is then 0. -/
def Obligations.EdgeBForcesIdle : Prop :=
  decodeOp 0b11#2 = .edgeB ∧
  ∀ s : State, s.cfg.wf = true → s.AtRest →
    exec .edgeB s = .next { s with drv := false } ∧
    exec .edgeB { s with drv := false } = .next { s with drv := false } ∧
    actOut { s with drv := false } = 0#s.cfg.magW

/-- R18: whatever the transient signals were, after a served operation all three are 0 and SEQ stays at rest. That the signals are fields
which an operation clears at its start and at its end, from any values, is the model's choice (log 5). The collator is left alone because
the latches and IE are written only by the events R20 and R21 name, the configuration by nothing (R22); R80 and R95 say the same of
the two edge operations. -/
def Obligations.OperationsLeaveNoSignal : Prop :=
  ∀ (l : Letter) (s : State), l ≠ .i → s.cfg.wf = true → s.seq = none →
    ∃ t, exec l.instr s = .next t ∧ t.AtRest ∧ s.SameCollator t

/-- R62 and R18: TB's counters as the pseudocode has them, in every state, and as the modular counter pair they equal while in range.
Two clauses are the model's reading (log 7): `cycle_complete` is written 0 where it is not 1, by the value R18 gives it, and for counters
out of range, where the pseudocode and the modular form part, the pseudocode is followed. -/
def Obligations.TbIsModularCounterPair : Prop :=
  decodePhase 0b00#2 = .tb ∧
  ∀ s : State, s.cfg.wf = true →
    exec .tb s = .next
      { s with
        tickcnt := if s.tickcnt + 1 = s.cfg.tps then 0 else s.tickcnt + 1
        elapsed :=
          if s.tickcnt + 1 = s.cfg.tps then (if s.elapsed + 1 = s.cfg.period then 0 else s.elapsed + 1) else s.elapsed
        cycleComplete := decide (s.tickcnt + 1 = s.cfg.tps) && decide (s.elapsed + 1 = s.cfg.period) } ∧
    (s.tickcnt < s.cfg.tps → s.elapsed < s.cfg.period →
      ∃ t, exec .tb s = .next t ∧
        t.tickcnt = (s.tickcnt + 1) % s.cfg.tps ∧
        t.elapsed = (if t.tickcnt = 0 then (s.elapsed + 1) % s.cfg.period else s.elapsed) ∧
        (t.cycleComplete = true ↔ t.tickcnt = 0 ∧ t.elapsed = 0))

/-- R70: IND drives LIT with blink(ELAPSED), lit in seconds 1 and 3 only, and reads and writes nothing else. -/
def Obligations.IndDrivesBlink : Prop :=
  decodePhase 0b01#2 = .ind ∧
  ∀ s : State, s.cfg.wf = true →
    exec .ind s = .next { s with lit := decide (s.elapsed = 1) || decide (s.elapsed = 3) }

/-- R75: AUTO drives from Idle on cycle complete; already Driving, or with no cycle complete, nothing is written. -/
def Obligations.AutoTriggersOnlyFromIdle : Prop :=
  decodePhase 0b10#2 = .auto ∧
  ∀ s : State, s.cfg.wf = true →
    (s.cycleComplete = true → s.drv = false → exec .auto s = .next { s with drv := true }) ∧
    (s.cycleComplete = true → s.drv = true → exec .auto s = .next s) ∧
    (s.cycleComplete = false → exec .auto s = .next s)

/-- R84 and R18: DEB counts COOL down, or dispatches, never both; the test is on COOL at the start of the phase. That `fire` is written 0
where DEB does not dispatch is the model's reading (log 7, DEDUCED): R84's pseudocode only ever sets it, and the value is R18's. -/
def Obligations.DebCountsDownOrDispatches : Prop :=
  decodePhase 0b11#2 = .deb ∧
  ∀ s : State, s.cfg.wf = true →
    (0 < s.cool → exec .deb s = .next { s with cool := s.cool - 1, fire := false }) ∧
    (s.cool = 0 → 0 < s.press →
      ∃ t, exec .dispatch { s with fire := true } = .next t ∧ exec .deb s = .next t) ∧
    (s.cool = 0 → s.press = 0 → exec .deb s = .next { s with fire := false })

/-- R86: DISPATCH runs exactly the action PRESS selects and then clears PRESS; it never writes COOL. -/
def Obligations.DispatchRunsSelectedActionAndClears : Prop :=
  ∀ s : State, s.cfg.wf = true →
    (s.press = 1 → exec .dispatch s = .next { s with drv := false, press := 0 }) ∧
    (s.press = 2 → exec .dispatch s = .next { s with elapsed := 0, press := 0 }) ∧
    (s.press = 3 → exec .dispatch s = .next { s with drv := true, press := 0 }) ∧
    (s.press ≠ 1 → s.press ≠ 2 → s.press ≠ 3 → exec .dispatch s = .next { s with press := 0 })

/-- R88: D_STOP is selector 1, writes DRV = 0 and nothing else, and overrides an AUTO of the same TICK. -/
def Obligations.DStopIdlesActuator : Prop :=
  (∀ w, 3 ≤ w → decode w { format := .ds, bits := 1 } = .ok .dStop) ∧
  ∀ s : State, s.cfg.wf = true →
    exec .dStop s = .next { s with drv := false } ∧
    (s.cool = 0 → s.press = 1 → ∃ t, exec .tick s = .next t ∧ t.drv = false)

/-- R89: D_RESET is selector 2 and clears ELAPSED and nothing else: not TICKCNT, not DRV, not LIT, not cycle_complete. -/
def Obligations.DResetClearsElapsedOnly : Prop :=
  (∀ w, 3 ≤ w → decode w { format := .ds, bits := 2 } = .ok .dReset) ∧
  ∀ s : State, s.cfg.wf = true → exec .dReset s = .next { s with elapsed := 0 }

/-- R90: D_SPIN is selector 3 and writes DRV = 1 and nothing else; from Driving it stays Driving. -/
def Obligations.DSpinDrivesActuator : Prop :=
  (∀ w, 3 ≤ w → decode w { format := .ds, bits := 3 } = .ok .dSpin) ∧
  ∀ s : State, s.cfg.wf = true →
    exec .dSpin s = .next { s with drv := true } ∧ (s.drv = true → exec .dSpin s = .next s)

/-- R91: every other selector is D_NOP, which writes nothing; the clearing of PRESS is DISPATCH's and happens here too. -/
def Obligations.DNopOnlyLetsPressClear : Prop :=
  ∀ (sel : Nat) (s : State), sel ≠ 1 → sel ≠ 2 → sel ≠ 3 → s.cfg.wf = true →
    (sel < 2 ^ s.cfg.pressW → decode s.cfg.pressW { format := .ds, bits := sel } = .ok (.dNop sel)) ∧
    exec (.dNop sel) s = .next s ∧
    exec .dispatch { s with press := sel } = .next { s with press := 0 }

/-- R130: after RESET every register is at its reset value, both outputs are 0, the configuration is as it was (R22). -/
def Obligations.ResetClearsEveryRegister : Prop :=
  ∀ s : State, s.cfg.wf = true →
    ∃ t, exec .reset s = .next t ∧
      t.tickcnt = 0 ∧ t.elapsed = 0 ∧ t.press = 0 ∧ t.cool = 0 ∧ t.drv = false ∧ t.lit = false ∧
      t.pendT = false ∧ t.pendA = false ∧ t.pendB = false ∧ t.ie = false ∧ t.seq = none ∧
      t.cfg = s.cfg ∧ indOut t = 0#1 ∧ actOut t = 0#t.cfg.magW

/-- The MODEL's choice (log 12): RESET, which is the block's, does not touch what the environment and the host do next. -/
def Obligations.ResetKeepsTheOutsideWorld : Prop :=
  ∀ s : State, s.cfg.wf = true →
    exec .reset s = .next
      { State.resetWith s.cfg with agenda := s.agenda, turnIdx := s.turnIdx, freeIdx := s.freeIdx }

/-- R133: START sets IE and writes nothing else; with IE = 1 already it changes nothing. -/
def Obligations.StartOpensTheGate : Prop :=
  ∀ s : State, s.cfg.wf = true →
    exec .start s = .next { s with ie := true } ∧ (s.ie = true → exec .start s = .next s)

/-- R106: notify(x) sets PEND_x and nothing else, in every state; raised again while pending it is merged. -/
def Obligations.NotifySetsItsLatchOnly : Prop :=
  ∀ s : State, s.cfg.wf = true →
    (exec .notifyT s = .next { s with pendT := true } ∧ (s.pendT = true → exec .notifyT s = .next s)) ∧
    (exec .notifyA s = .next { s with pendA := true } ∧ (s.pendA = true → exec .notifyA s = .next s)) ∧
    (exec .notifyB s = .next { s with pendB := true } ∧ (s.pendB = true → exec .notifyB s = .next s))

/-! ## The step relation: what the dispatcher, the environment and the host do -/

/-- R105, R108, R111, R112: when IE = 1 and the arbiter grants `x`, the step decodes the arbiter's OP code and runs exactly that
operation, on the state with the latch and IE cleared, and sets IE when it completes; the turn used up and the arbiter's count of free
choices are the model's own (logs 8 and 10). With nothing granted it runs IDLE. -/
def Obligations.StepRunsTheDecodedOperation : Prop :=
  ∀ s : State, s.cfg.wf = true → s.dispatcherMoves = true → s.ie = true →
    (∀ x, grant s = some x →
      ∃ t, exec (decodeOp (fetch s)) (setPend x false { useTurn (afterGrant s) with ie := false }) = .next t ∧
        step s = .next { t with ie := true }) ∧
    (grant s = none →
      exec (decodeOp (fetch s)) (useTurn s) = .next (useTurn s) ∧ step s = .next (useTurn s))

/-- R31, R105: an occurrence on a pin performs its operation in every state: EV_T, EV_A, EV_B set their latch (R106), RST gives the reset
state (R130), START sets IE (R133), each with nothing else changed. That a turn is used up, and that RESET leaves the turns and the free
choices alone, is the model's own (logs 8 and 12). -/
def Obligations.PinTurnRunsItsOperation : Prop :=
  ∀ (s : State) (p : Pin), s.cfg.wf = true → nextTurn s = .pin p →
    (∃ t, exec p.instr (useTurn s) = .next t ∧ step s = .next t) ∧
    (p = .evT → step s = .next { useTurn s with pendT := true }) ∧
    (p = .evA → step s = .next { useTurn s with pendA := true }) ∧
    (p = .evB → step s = .next { useTurn s with pendB := true }) ∧
    (p = .rst → step s = .next
      { State.resetWith s.cfg with
        agenda := (useTurn s).agenda, turnIdx := (useTurn s).turnIdx, freeIdx := (useTurn s).freeIdx }) ∧
    (p = .start → step s = .next { useTurn s with ie := true })

/-- R132 with the model's stutter (log 9): while IE = 0 the dispatcher serves nothing and changes nothing. -/
def Obligations.HeldWhileGateClosed : Prop :=
  ∀ s : State, s.cfg.wf = true → s.dispatcherMoves = true → s.ie = false →
    step s = .next (useTurn s)

/-- R105: what a step serves was enabled: IE = 1, its latch set, and no source of higher priority pending; and idling means that no
latch was set. -/
def Obligations.ServedOnlyWhenEnabled : Prop :=
  ∀ (s : State), s.cfg.wf = true →
    (∀ x, nextEvent s = .serve x →
      s.ie = true ∧ pend s x = true ∧
      ∀ p q r, s.cfg.arb = .order p q r →
        (x = q → pend s p = false) ∧ (x = r → pend s p = false ∧ pend s q = false)) ∧
    (nextEvent s = .idle → s.ie = true ∧ s.pendT = false ∧ s.pendA = false ∧ s.pendB = false)

/-- R109: a total order is a fixed priority: the highest pending source is granted; the OP code is 00 exactly when nothing is. -/
def Obligations.FixedPriorityGrantsHighest : Prop :=
  ∀ (s : State) (p q r : Source), s.cfg.wf = true → s.cfg.arb = .order p q r →
    grant s = (if pend s p then some p else if pend s q then some q else if pend s r then some r else none) ∧
    (fetch s = 0b00#2 ↔ s.pendT = false ∧ s.pendA = false ∧ s.pendB = false)

/-- R109 with ARB = free: whatever the arbiter's free choice is, a pending source is granted when one is pending; and every pending
source is granted under some choice. -/
def Obligations.FreeArbiterMayGrantAnyPending : Prop :=
  ∀ s : State, s.cfg.arb = .free →
    (∀ n, (s.pendT = true ∨ s.pendA = true ∨ s.pendB = true) → ∃ x, pick n s = some x ∧ pend s x = true) ∧
    (∀ x, pend s x = true → ∃ n, pick n s = some x)

/-- R114: under the reference arbiter B > A > T a pending stop edge is served by the dispatcher's next step. -/
def Obligations.StopServedFirstUnderReferenceArbiter : Prop :=
  ∀ s : State, s.cfg.wf = true → s.cfg.arb = .order .b .a .t → s.ie = true → s.pendB = true → s.dispatcherMoves = true →
    ∃ t, step s = .next t ∧ t.drv = false ∧ t.pendB = false ∧ t.pendA = s.pendA ∧ t.pendT = s.pendT

/-- R105: every word over I, T, A, B is the trace of a run from the state just after START, whatever the arbiter: with each notification
raised just before it is served, the machine's steps have exactly these letters as their serve and idle steps and reach the state that
the operations give one after the other. And it is the trace of a run that the weak fairness of R115 admits (as log 11 reads it): an endless valid
and fair run begins with it. -/
def Obligations.EveryTraceIsARun : Prop :=
  ∀ (c : Config) (tr : List Letter), c.wf = true →
    ∃ t, runTrace tr (State.launch c) = .next t ∧
      Sys2Proof.core.run (turnsOf tr).length { State.launch c with agenda := turnsOf tr } = .next t ∧
      stepTrace (turnsOf tr).length { State.launch c with agenda := turnsOf tr } = tr ∧
      ∃ (r : Run) (n : Nat), r.Valid ∧ r.Fair ∧ r.state 0 = State.launch c ∧ r.state n = t ∧ r.trace n = tr

/-- R20, R107, R111: a latch, once set, is cleared only by serving it or by RESET. R115, as log 11 reads it: in every run of the hardware, that is
every valid and fair one, a latch set while IE = 1 and no RESET ahead is served at some step `m`; it is held until then and that step clears it. -/
def Obligations.LatchHeldUntilServed : Prop :=
  (∀ (s t : State) (x : Source), step s = .next t → pend s x = true →
    nextEvent s ≠ .serve x → nextEvent s ≠ .pin .rst → pend t x = true) ∧
  ∀ (r : Run) (n : Nat) (x : Source), r.Valid → r.Fair → (r.state n).ie = true → pend (r.state n) x = true →
    (∀ m, n ≤ m → r.event m ≠ .pin .rst) →
    ∃ m, n ≤ m ∧ r.event m = .serve x ∧ (∀ k, n ≤ k → k ≤ m → pend (r.state k) x = true) ∧
      pend (r.state (m + 1)) x = false

/-- R24 (h), R112: once open, the gate is open at every boundary until RESET. -/
def Obligations.GateStaysOpenUntilReset : Prop :=
  ∀ s t : State, step s = .next t → s.ie = true → nextEvent s ≠ .pin .rst → t.ie = true

/-- R20: a latch "cannot be read or written by anything but" notify, serve and RESET, so no operation I, T, A, B depends on one or writes
one: run with a latch changed, each gives the same state with that latch changed. R60 (b) says so of TICK, R80, R95 and R97 give
what the others write. -/
def Obligations.OperationsIgnoreLatches : Prop :=
  ∀ (l : Letter) (x : Source) (b : Bool) (s t : State), exec l.instr s = .next t →
    exec l.instr (setPend x b s) = .next (setPend x b t)

/-! ## Rules of the whole machine -/

/-- R24, R25: the invariants hold after RESET and in the launch state, under every well-formed configuration. -/
def Obligations.InvariantHoldsAtReset : Prop :=
  ∀ c : Config, c.wf = true → (State.resetWith c).Inv ∧ (State.launch c).Inv

/-- The invariants hold at the model's State.reset, whose configuration is the model's choice (logs 2 and 3). -/
def Obligations.InvariantHoldsAtModelReset : Prop := State.reset.Inv

/-- R24 (a), (b), (c), (e), (f), (g), with R17 and R18: every step, of whichever agent, keeps the invariants. -/
def Obligations.StepKeepsInvariant : Prop :=
  ∀ s t : State, s.Inv → step s = .next t → t.Inv

/-- R100, R113, R39: every operation completes, in every state, under a well-formed configuration. So does every step, and what it
performs was enabled; with IE = 0 and the dispatcher's turn, where R105 and R132 enable no step, that step is the model's stutter
(log 9, DEDUCED). And no run gets stuck: every valid run, cut off after any number of steps, goes on to one that is fair (R115, log 11). -/
def Obligations.EveryOperationCompletes : Prop :=
  (∀ s : State, s.cfg.wf = true →
    (∀ i : Instr, ∃ t, exec i s = .next t) ∧ (∃ t, step s = .next t) ∧ eventEnabled (nextEvent s) s = true) ∧
  ∀ (r : Run) (n : Nat), r.Valid →
    ∃ q : Run, q.Valid ∧ q.Fair ∧ (∀ k, k ≤ n → q.state k = r.state k) ∧ ∀ k, k < n → q.event k = r.event k

/-- R6: an ill-formed configuration has no behaviour: every operation and every step is refused. -/
def Obligations.IllFormedConfigRefused : Prop :=
  ∀ s : State, s.cfg.wf = false →
    (∀ i : Instr, exec i s = .refused .illFormedConfig) ∧ step s = .refused .illFormedConfig

/-- R5: the constraints, one by one. -/
def Obligations.ConfigConstraints : Prop :=
  ∀ c : Config, c.wf = true ↔
    1 ≤ c.tps ∧ 1 ≤ c.period ∧ 1 ≤ c.top ∧ c.guard < c.top ∧ 1 ≤ c.m ∧ c.m ≤ 2 ^ c.magW - 1 ∧ 1 ≤ c.magW ∧ 3 ≤ c.pressW ∧
      ∀ p q r, c.arb = .order p q r → p ≠ q ∧ p ≠ r ∧ q ≠ r

/-- R7, R22: no operation and no step, RESET included, changes the configuration. -/
def Obligations.ConfigurationNeverChanges : Prop :=
  ∀ s t : State, ((∃ i, exec i s = .next t) ∨ step s = .next t) → t.cfg = s.cfg

/-- R61: with no TICK served and no RESET, the time base and LIT do not change, COOL does not drain and no dispatch clears PRESS. -/
def Obligations.TimeAdvancesOnlyByTick : Prop :=
  ∀ s t : State, s.press ≤ s.cfg.pressMax → step s = .next t → nextEvent s ≠ .serve .t → nextEvent s ≠ .pin .rst →
    t.tickcnt = s.tickcnt ∧ t.elapsed = s.elapsed ∧ t.lit = s.lit ∧ s.cool ≤ t.cool ∧ s.press ≤ t.press

/-- R19, R13, R14: PRESS and COOL grow only by a served EDGE_A. -/
def Obligations.PressCountsOnlyByEdgeA : Prop :=
  ∀ s t : State, step s = .next t → nextEvent s ≠ .serve .a → t.press ≤ s.press ∧ t.cool ≤ s.cool

/-- R76: the actuator's transition table, from either state: every row. -/
def Obligations.ActuatorTransitionTable : Prop :=
  ∀ s : State, s.cfg.wf = true →
    (∃ t, exec .auto s = .next t ∧ t.drv = (s.cycleComplete || s.drv)) ∧
    (∃ t, exec .dSpin s = .next t ∧ t.drv = true) ∧
    (∃ t, exec .dStop s = .next t ∧ t.drv = false) ∧
    (∃ t, exec .dReset s = .next t ∧ t.drv = s.drv) ∧
    (∀ sel, ∃ t, exec (.dNop sel) s = .next t ∧ t.drv = s.drv) ∧
    (∃ t, exec .edgeB s = .next t ∧ t.drv = false) ∧
    (∃ t, exec .edgeA s = .next t ∧ t.drv = s.drv) ∧
    (¬ (s.tickcnt + 1 = s.cfg.tps ∧ s.elapsed + 1 = s.cfg.period) → ¬ (s.cool = 0 ∧ 0 < s.press) →
      ∃ t, exec .tick s = .next t ∧ t.drv = s.drv)

/-- R77, which the spec derives from R75, R17 and R88: a cycle completes in the TICK in which a dispatch is due, and the action has the
last word. PRESS = 0 is DISPATCH's (R86); the indicator is unlit because ELAPSED wrapped to 0 (R70). -/
def Obligations.DispatchHasTheLastWord : Prop :=
  ∀ s : State, s.cfg.wf = true → s.tickcnt + 1 = s.cfg.tps → s.elapsed + 1 = s.cfg.period → s.cool = 0 → 0 < s.press →
    ∃ t, exec .tick s = .next t ∧ t.press = 0 ∧ t.lit = false ∧ t.drv = decide (s.press ≠ 1)

/-- R78: Driving is left only by a stop edge, by a dispatched D_STOP, or by RESET: there is no timeout. -/
def Obligations.DrivingEndsOnlyByAStop : Prop :=
  ∀ s t : State, step s = .next t → s.drv = true → t.drv = false →
    nextEvent s = .serve .b ∨ (nextEvent s = .serve .t ∧ s.cool = 0 ∧ s.press = 1) ∨ nextEvent s = .pin .rst

/-- R96: the stop edge cancels neither a waiting count nor the automatic trigger: a TICK after it drives again. -/
def Obligations.StopEdgeCancelsNothing : Prop :=
  ∀ s u : State, exec .edgeB s = .next u →
    (s.cool = 0 ∧ s.press = 3) ∨
      (s.tickcnt + 1 = s.cfg.tps ∧ s.elapsed + 1 = s.cfg.period ∧ ¬ (s.cool = 0 ∧ s.press = 1)) →
    u.drv = false ∧ ∃ t, exec .tick u = .next t ∧ t.drv = true

/-- R83, R36: two edges of one source with no TICK between them act as one. -/
def Obligations.EdgesAreIdempotent : Prop :=
  ∀ s t : State,
    (exec .edgeA s = .next t → exec .edgeA t = .next t) ∧ (exec .edgeB s = .next t → exec .edgeB t = .next t)

/-- R110: with A and B both pending, both orders give the same state. `runTrace` is the
composition of the operations, from IE = 0 too (log 25). -/
def Obligations.EdgesCommute : Prop :=
  ∀ s : State, s.cfg.wf = true → ∃ t, runTrace [.a, .b] s = .next t ∧ runTrace [.b, .a] s = .next t

/-- R71: after a TICK the indicator is lit exactly in seconds 1 and 3, unless that TICK ran D_RESET. -/
def Obligations.IndicatorFollowsBlink : Prop :=
  ∀ s t : State, exec .tick s = .next t → ¬ s.ResetDue → (t.lit = true ↔ t.elapsed = 1 ∨ t.elapsed = 3)

/-- R72: after a D_RESET, ELAPSED is 0 and LIT is still blink of the value before the reset; the next TICK puts LIT right. -/
def Obligations.IndicatorLagsResetByOneTick : Prop :=
  ∀ s : State, s.cfg.wf = true → s.ResetDue →
    ∃ t u, exec .tick s = .next t ∧ exec .tick t = .next u ∧
      t.elapsed = 0 ∧
      (t.lit = true ↔
        (s.tickcnt + 1 ≠ s.cfg.tps ∧ (s.elapsed = 1 ∨ s.elapsed = 3)) ∨
          (s.tickcnt + 1 = s.cfg.tps ∧ s.elapsed + 1 ≠ s.cfg.period ∧ (s.elapsed = 0 ∨ s.elapsed = 2))) ∧
      (u.lit = true ↔ u.elapsed = 1 ∨ u.elapsed = 3)

/-- R63: the closed form of `n` TICKs with no D_RESET among them. `runTrace` is the
composition of the operations, from IE = 0 too (log 25). -/
def Obligations.TicksClosedForm : Prop :=
  ∀ (n : Nat) (s : State), s.cfg.wf = true → s.tickcnt < s.cfg.tps → s.elapsed < s.cfg.period →
    (∀ k u, k < n → runTrace (ticks k) s = .next u → ¬ u.ResetDue) →
    ∃ t, runTrace (ticks n) s = .next t ∧
      t.tickcnt = (s.tickcnt + n) % s.cfg.tps ∧
      t.elapsed = (s.elapsed + (s.tickcnt + n) / s.cfg.tps) % s.cfg.period ∧
      cyclesSignalled n s = (s.elapsed + (s.tickcnt + n) / s.cfg.tps) / s.cfg.period

/-- R85: a waiting count is dispatched in the TICK after the window has drained, and not before. `runTrace` is the
composition of the operations, from IE = 0 too (log 25). -/
def Obligations.WindowDrainsThenDispatches : Prop :=
  ∀ s : State, s.cfg.wf = true → 0 < s.press →
    (∀ n, n ≤ s.cool → ∃ t, runTrace (ticks n) s = .next t ∧ t.cool = s.cool - n ∧ t.press = s.press) ∧
    ∃ t, runTrace (ticks (s.cool + 1)) s = .next t ∧ t.cool = 0 ∧ t.press = 0 ∧
      (s.press = 1 → t.drv = false) ∧ (s.press = 2 → t.elapsed = 0) ∧ (s.press = 3 → t.drv = true)

/-- R81: `g` TICKs after an accepted edge COOL is TOP - g (0 when drained), and a further edge is accepted exactly when g > GUARD;
it adds to the count up to g = TOP and starts a new one after. `runTrace` is the
composition of the operations, from IE = 0 too (log 25). -/
def Obligations.AcceptanceByGap : Prop :=
  ∀ (s u : State) (g : Nat), s.cool < s.cfg.top - s.cfg.guard → exec .edgeA s = .next u →
    ∃ t v, runTrace (ticks g) u = .next t ∧ exec .edgeA t = .next v ∧
      t.cool = s.cfg.top - g ∧
      (g ≤ s.cfg.guard → v = t) ∧
      (s.cfg.guard < g → v.cool = s.cfg.top) ∧
      (s.cfg.guard < g → g ≤ s.cfg.top → v.press = satInc s.cfg u.press) ∧
      (s.cfg.top < g → v.press = 1)

/-- R87: after a dispatch nothing more is dispatched until an edge is accepted. `runTrace` is the
composition of the operations, from IE = 0 too (log 25). -/
def Obligations.DispatchOncePerWindow : Prop :=
  ∀ (tr : List Letter) (s : State), s.cfg.wf = true → .a ∉ tr → s.cool = 0 → s.press = 0 →
    ∃ t, runTrace tr s = .next t ∧ t.cool = 0 ∧ t.press = 0 ∧ (s.drv = true → .b ∉ tr → t.drv = true)

/-- R82, R53: after PRESS(k) from the launch state, `k` edges are accepted and PRESS equals `k`, as long as PRESS can hold it; the last
one has just reloaded COOL. -/
def Obligations.PressesAreCounted : Prop :=
  ∀ (c : Config) (k : Nat), c.wf = true → 1 ≤ k → k ≤ c.pressMax →
    ∃ t, runTrace (presses c k) (State.launch c) = .next t ∧ t.press = k ∧ t.cool = c.top

/-- R82: saturation is invisible: along every trace, a machine with a narrower PRESS and one with a wider PRESS agree on every
register but PRESS, and there the narrower holds the wider count up to its ceiling. `runTrace` is the
composition of the operations, from IE = 0 too (log 25). -/
def Obligations.SaturationIsInvisible : Prop :=
  ∀ (tr : List Letter) (s u : State), s.cfg.wf = true → u.cfg.wf = true → s.SaturatedTwin u →
    ∃ s' u', runTrace tr s = .next s' ∧ runTrace tr u = .next u' ∧ s'.SaturatedTwin u'

/-- R31, R46, R47: the ports: IND_OUT is LIT, ACT_OUT is M when Driving and 0 when Idle, and M is not 0 there. -/
def Obligations.PortsShowRegisters : Prop :=
  ∀ s : State, s.cfg.wf = true →
    indOut s = (if s.lit then 1#1 else 0#1) ∧
    (s.drv = true → (actOut s).toNat = s.cfg.m ∧ actOut s ≠ 0#s.cfg.magW) ∧
    (s.drv = false → actOut s = 0#s.cfg.magW)

/-- R11 to R14, R5: in every state that meets the invariants each counter fits its width, and clog2 is the least such exponent. -/
def Obligations.CountersFitTheirWidths : Prop :=
  (∀ n, n ≤ 2 ^ clog2 n ∧ ∀ k, n ≤ 2 ^ k → clog2 n ≤ k) ∧
  ∀ s : State, s.Inv →
    s.tickcnt < 2 ^ s.cfg.tickW ∧ s.elapsed < 2 ^ s.cfg.elapsedW ∧ s.cool < 2 ^ s.cfg.coolW ∧ s.press < 2 ^ s.cfg.pressW

/-! ## Encodings -/

/-- R42 to R45: decoding the code word of a well-formed operation gives it back, the selector of D_NOP at every value. -/
def Obligations.DecodeOfEncode : Prop :=
  ∀ (pressW : Nat) (i : Instr) (w : CodeWord), 3 ≤ pressW → i.wf pressW = true → encode i = some w →
    decode pressW w = .ok i

/-- R50: every word of every format decodes, to a well-formed operation whose code word it is; a longer number is refused. -/
def Obligations.EncodeOfDecode : Prop :=
  ∀ (pressW : Nat) (w : CodeWord),
    (w.fits pressW = true → ∃ i, decode pressW w = .ok i ∧ i.wf pressW = true ∧ encode i = some w) ∧
    (w.fits pressW = false → decode pressW w = .error .tooWide)

/-- R51: for PRESS_W = 8 each word of a format selects exactly one row of the table, the row of the operation it decodes to. -/
def Obligations.TableRowsAreTheDecoder : Prop :=
  ∀ w : CodeWord, w.fits 8 = true →
    ∃ i r, decode 8 w = .ok i ∧ opcodeRows.filter (·.selects w) = [r] ∧ r.mnemonic = i.mnemonic

/-- R43, R44, R45: words written out bit by bit. -/
def Obligations.WordsFromTheTables : Prop :=
  decode 8 { format := .op, bits := 0b01 } = .ok .tick ∧
  decode 8 { format := .op, bits := 0b11 } = .ok .edgeB ∧
  decode 8 { format := .ph, bits := 0b10 } = .ok .auto ∧
  decode 8 { format := .ds, bits := 0b00000010 } = .ok .dReset ∧
  decode 8 { format := .ds, bits := 0b10000001 } = .ok (.dNop 129) ∧
  decode 8 { format := .op, bits := 0b100 } = .error .tooWide

/-- R43, R52: a trace is the concatenation of its 2-bit OP codes, the first operation in the most significant place, and each code decodes
to the operation of its letter; the trace and its number determine each other. -/
def Obligations.TraceCodeRoundTrip : Prop :=
  (∀ l : Letter, decodeOp l.code = l.instr) ∧
  encodeTrace [.a, .t, .t, .b] = 0b10010111 ∧
  ∀ (tr : List Letter) (n w : Nat),
    (∀ k (h : k < tr.length), encodeTrace tr / 4 ^ (tr.length - 1 - k) % 4 = tr[k].code.toNat) ∧
    decodeTrace tr.length (encodeTrace tr) = some tr ∧
    (w < 4 ^ n → ∃ l, decodeTrace n w = some l ∧ l.length = n ∧ encodeTrace l = w)
end

