-- ==== Sys2Proof/Laws/State.lean ====
section
/-! SUPPORT. One lemma per field per register operation: what each named operation of Machine/Ops.lean writes, and that it leaves
every other field alone. -/

namespace Sys2Proof.Machine

/-! setTickcnt -/

@[simp] theorem setTickcnt_cfg (v : Nat) (s : State) : (setTickcnt v s).cfg = s.cfg := rfl
@[simp] theorem setTickcnt_tickcnt (v : Nat) (s : State) : (setTickcnt v s).tickcnt = v := rfl
@[simp] theorem setTickcnt_elapsed (v : Nat) (s : State) : (setTickcnt v s).elapsed = s.elapsed := rfl
@[simp] theorem setTickcnt_press (v : Nat) (s : State) : (setTickcnt v s).press = s.press := rfl
@[simp] theorem setTickcnt_cool (v : Nat) (s : State) : (setTickcnt v s).cool = s.cool := rfl
@[simp] theorem setTickcnt_drv (v : Nat) (s : State) : (setTickcnt v s).drv = s.drv := rfl
@[simp] theorem setTickcnt_lit (v : Nat) (s : State) : (setTickcnt v s).lit = s.lit := rfl
@[simp] theorem setTickcnt_pendT (v : Nat) (s : State) : (setTickcnt v s).pendT = s.pendT := rfl
@[simp] theorem setTickcnt_pendA (v : Nat) (s : State) : (setTickcnt v s).pendA = s.pendA := rfl
@[simp] theorem setTickcnt_pendB (v : Nat) (s : State) : (setTickcnt v s).pendB = s.pendB := rfl
@[simp] theorem setTickcnt_ie (v : Nat) (s : State) : (setTickcnt v s).ie = s.ie := rfl
@[simp] theorem setTickcnt_seq (v : Nat) (s : State) : (setTickcnt v s).seq = s.seq := rfl
@[simp] theorem setTickcnt_cycleComplete (v : Nat) (s : State) : (setTickcnt v s).cycleComplete = s.cycleComplete := rfl
@[simp] theorem setTickcnt_accept (v : Nat) (s : State) : (setTickcnt v s).accept = s.accept := rfl
@[simp] theorem setTickcnt_fire (v : Nat) (s : State) : (setTickcnt v s).fire = s.fire := rfl
@[simp] theorem setTickcnt_agenda (v : Nat) (s : State) : (setTickcnt v s).agenda = s.agenda := rfl
@[simp] theorem setTickcnt_turnIdx (v : Nat) (s : State) : (setTickcnt v s).turnIdx = s.turnIdx := rfl
@[simp] theorem setTickcnt_freeIdx (v : Nat) (s : State) : (setTickcnt v s).freeIdx = s.freeIdx := rfl

/-! setElapsed -/

@[simp] theorem setElapsed_cfg (v : Nat) (s : State) : (setElapsed v s).cfg = s.cfg := rfl
@[simp] theorem setElapsed_tickcnt (v : Nat) (s : State) : (setElapsed v s).tickcnt = s.tickcnt := rfl
@[simp] theorem setElapsed_elapsed (v : Nat) (s : State) : (setElapsed v s).elapsed = v := rfl
@[simp] theorem setElapsed_press (v : Nat) (s : State) : (setElapsed v s).press = s.press := rfl
@[simp] theorem setElapsed_cool (v : Nat) (s : State) : (setElapsed v s).cool = s.cool := rfl
@[simp] theorem setElapsed_drv (v : Nat) (s : State) : (setElapsed v s).drv = s.drv := rfl
@[simp] theorem setElapsed_lit (v : Nat) (s : State) : (setElapsed v s).lit = s.lit := rfl
@[simp] theorem setElapsed_pendT (v : Nat) (s : State) : (setElapsed v s).pendT = s.pendT := rfl
@[simp] theorem setElapsed_pendA (v : Nat) (s : State) : (setElapsed v s).pendA = s.pendA := rfl
@[simp] theorem setElapsed_pendB (v : Nat) (s : State) : (setElapsed v s).pendB = s.pendB := rfl
@[simp] theorem setElapsed_ie (v : Nat) (s : State) : (setElapsed v s).ie = s.ie := rfl
@[simp] theorem setElapsed_seq (v : Nat) (s : State) : (setElapsed v s).seq = s.seq := rfl
@[simp] theorem setElapsed_cycleComplete (v : Nat) (s : State) : (setElapsed v s).cycleComplete = s.cycleComplete := rfl
@[simp] theorem setElapsed_accept (v : Nat) (s : State) : (setElapsed v s).accept = s.accept := rfl
@[simp] theorem setElapsed_fire (v : Nat) (s : State) : (setElapsed v s).fire = s.fire := rfl
@[simp] theorem setElapsed_agenda (v : Nat) (s : State) : (setElapsed v s).agenda = s.agenda := rfl
@[simp] theorem setElapsed_turnIdx (v : Nat) (s : State) : (setElapsed v s).turnIdx = s.turnIdx := rfl
@[simp] theorem setElapsed_freeIdx (v : Nat) (s : State) : (setElapsed v s).freeIdx = s.freeIdx := rfl

/-! setPress -/

@[simp] theorem setPress_cfg (v : Nat) (s : State) : (setPress v s).cfg = s.cfg := rfl
@[simp] theorem setPress_tickcnt (v : Nat) (s : State) : (setPress v s).tickcnt = s.tickcnt := rfl
@[simp] theorem setPress_elapsed (v : Nat) (s : State) : (setPress v s).elapsed = s.elapsed := rfl
@[simp] theorem setPress_press (v : Nat) (s : State) : (setPress v s).press = v := rfl
@[simp] theorem setPress_cool (v : Nat) (s : State) : (setPress v s).cool = s.cool := rfl
@[simp] theorem setPress_drv (v : Nat) (s : State) : (setPress v s).drv = s.drv := rfl
@[simp] theorem setPress_lit (v : Nat) (s : State) : (setPress v s).lit = s.lit := rfl
@[simp] theorem setPress_pendT (v : Nat) (s : State) : (setPress v s).pendT = s.pendT := rfl
@[simp] theorem setPress_pendA (v : Nat) (s : State) : (setPress v s).pendA = s.pendA := rfl
@[simp] theorem setPress_pendB (v : Nat) (s : State) : (setPress v s).pendB = s.pendB := rfl
@[simp] theorem setPress_ie (v : Nat) (s : State) : (setPress v s).ie = s.ie := rfl
@[simp] theorem setPress_seq (v : Nat) (s : State) : (setPress v s).seq = s.seq := rfl
@[simp] theorem setPress_cycleComplete (v : Nat) (s : State) : (setPress v s).cycleComplete = s.cycleComplete := rfl
@[simp] theorem setPress_accept (v : Nat) (s : State) : (setPress v s).accept = s.accept := rfl
@[simp] theorem setPress_fire (v : Nat) (s : State) : (setPress v s).fire = s.fire := rfl
@[simp] theorem setPress_agenda (v : Nat) (s : State) : (setPress v s).agenda = s.agenda := rfl
@[simp] theorem setPress_turnIdx (v : Nat) (s : State) : (setPress v s).turnIdx = s.turnIdx := rfl
@[simp] theorem setPress_freeIdx (v : Nat) (s : State) : (setPress v s).freeIdx = s.freeIdx := rfl

/-! setCool -/

@[simp] theorem setCool_cfg (v : Nat) (s : State) : (setCool v s).cfg = s.cfg := rfl
@[simp] theorem setCool_tickcnt (v : Nat) (s : State) : (setCool v s).tickcnt = s.tickcnt := rfl
@[simp] theorem setCool_elapsed (v : Nat) (s : State) : (setCool v s).elapsed = s.elapsed := rfl
@[simp] theorem setCool_press (v : Nat) (s : State) : (setCool v s).press = s.press := rfl
@[simp] theorem setCool_cool (v : Nat) (s : State) : (setCool v s).cool = v := rfl
@[simp] theorem setCool_drv (v : Nat) (s : State) : (setCool v s).drv = s.drv := rfl
@[simp] theorem setCool_lit (v : Nat) (s : State) : (setCool v s).lit = s.lit := rfl
@[simp] theorem setCool_pendT (v : Nat) (s : State) : (setCool v s).pendT = s.pendT := rfl
@[simp] theorem setCool_pendA (v : Nat) (s : State) : (setCool v s).pendA = s.pendA := rfl
@[simp] theorem setCool_pendB (v : Nat) (s : State) : (setCool v s).pendB = s.pendB := rfl
@[simp] theorem setCool_ie (v : Nat) (s : State) : (setCool v s).ie = s.ie := rfl
@[simp] theorem setCool_seq (v : Nat) (s : State) : (setCool v s).seq = s.seq := rfl
@[simp] theorem setCool_cycleComplete (v : Nat) (s : State) : (setCool v s).cycleComplete = s.cycleComplete := rfl
@[simp] theorem setCool_accept (v : Nat) (s : State) : (setCool v s).accept = s.accept := rfl
@[simp] theorem setCool_fire (v : Nat) (s : State) : (setCool v s).fire = s.fire := rfl
@[simp] theorem setCool_agenda (v : Nat) (s : State) : (setCool v s).agenda = s.agenda := rfl
@[simp] theorem setCool_turnIdx (v : Nat) (s : State) : (setCool v s).turnIdx = s.turnIdx := rfl
@[simp] theorem setCool_freeIdx (v : Nat) (s : State) : (setCool v s).freeIdx = s.freeIdx := rfl

/-! actuator -/

@[simp] theorem actuator_cfg (d : Bool) (s : State) : (actuator d s).cfg = s.cfg := rfl
@[simp] theorem actuator_tickcnt (d : Bool) (s : State) : (actuator d s).tickcnt = s.tickcnt := rfl
@[simp] theorem actuator_elapsed (d : Bool) (s : State) : (actuator d s).elapsed = s.elapsed := rfl
@[simp] theorem actuator_press (d : Bool) (s : State) : (actuator d s).press = s.press := rfl
@[simp] theorem actuator_cool (d : Bool) (s : State) : (actuator d s).cool = s.cool := rfl
@[simp] theorem actuator_drv (d : Bool) (s : State) : (actuator d s).drv = d := rfl
@[simp] theorem actuator_lit (d : Bool) (s : State) : (actuator d s).lit = s.lit := rfl
@[simp] theorem actuator_pendT (d : Bool) (s : State) : (actuator d s).pendT = s.pendT := rfl
@[simp] theorem actuator_pendA (d : Bool) (s : State) : (actuator d s).pendA = s.pendA := rfl
@[simp] theorem actuator_pendB (d : Bool) (s : State) : (actuator d s).pendB = s.pendB := rfl
@[simp] theorem actuator_ie (d : Bool) (s : State) : (actuator d s).ie = s.ie := rfl
@[simp] theorem actuator_seq (d : Bool) (s : State) : (actuator d s).seq = s.seq := rfl
@[simp] theorem actuator_cycleComplete (d : Bool) (s : State) : (actuator d s).cycleComplete = s.cycleComplete := rfl
@[simp] theorem actuator_accept (d : Bool) (s : State) : (actuator d s).accept = s.accept := rfl
@[simp] theorem actuator_fire (d : Bool) (s : State) : (actuator d s).fire = s.fire := rfl
@[simp] theorem actuator_agenda (d : Bool) (s : State) : (actuator d s).agenda = s.agenda := rfl
@[simp] theorem actuator_turnIdx (d : Bool) (s : State) : (actuator d s).turnIdx = s.turnIdx := rfl
@[simp] theorem actuator_freeIdx (d : Bool) (s : State) : (actuator d s).freeIdx = s.freeIdx := rfl

/-! indicator -/

@[simp] theorem indicator_cfg (b : Bool) (s : State) : (indicator b s).cfg = s.cfg := rfl
@[simp] theorem indicator_tickcnt (b : Bool) (s : State) : (indicator b s).tickcnt = s.tickcnt := rfl
@[simp] theorem indicator_elapsed (b : Bool) (s : State) : (indicator b s).elapsed = s.elapsed := rfl
@[simp] theorem indicator_press (b : Bool) (s : State) : (indicator b s).press = s.press := rfl
@[simp] theorem indicator_cool (b : Bool) (s : State) : (indicator b s).cool = s.cool := rfl
@[simp] theorem indicator_drv (b : Bool) (s : State) : (indicator b s).drv = s.drv := rfl
@[simp] theorem indicator_lit (b : Bool) (s : State) : (indicator b s).lit = b := rfl
@[simp] theorem indicator_pendT (b : Bool) (s : State) : (indicator b s).pendT = s.pendT := rfl
@[simp] theorem indicator_pendA (b : Bool) (s : State) : (indicator b s).pendA = s.pendA := rfl
@[simp] theorem indicator_pendB (b : Bool) (s : State) : (indicator b s).pendB = s.pendB := rfl
@[simp] theorem indicator_ie (b : Bool) (s : State) : (indicator b s).ie = s.ie := rfl
@[simp] theorem indicator_seq (b : Bool) (s : State) : (indicator b s).seq = s.seq := rfl
@[simp] theorem indicator_cycleComplete (b : Bool) (s : State) : (indicator b s).cycleComplete = s.cycleComplete := rfl
@[simp] theorem indicator_accept (b : Bool) (s : State) : (indicator b s).accept = s.accept := rfl
@[simp] theorem indicator_fire (b : Bool) (s : State) : (indicator b s).fire = s.fire := rfl
@[simp] theorem indicator_agenda (b : Bool) (s : State) : (indicator b s).agenda = s.agenda := rfl
@[simp] theorem indicator_turnIdx (b : Bool) (s : State) : (indicator b s).turnIdx = s.turnIdx := rfl
@[simp] theorem indicator_freeIdx (b : Bool) (s : State) : (indicator b s).freeIdx = s.freeIdx := rfl

/-! setPend -/

@[simp] theorem setPend_cfg (x : Source) (b : Bool) (s : State) : (setPend x b s).cfg = s.cfg := rfl
@[simp] theorem setPend_tickcnt (x : Source) (b : Bool) (s : State) : (setPend x b s).tickcnt = s.tickcnt := rfl
@[simp] theorem setPend_elapsed (x : Source) (b : Bool) (s : State) : (setPend x b s).elapsed = s.elapsed := rfl
@[simp] theorem setPend_press (x : Source) (b : Bool) (s : State) : (setPend x b s).press = s.press := rfl
@[simp] theorem setPend_cool (x : Source) (b : Bool) (s : State) : (setPend x b s).cool = s.cool := rfl
@[simp] theorem setPend_drv (x : Source) (b : Bool) (s : State) : (setPend x b s).drv = s.drv := rfl
@[simp] theorem setPend_lit (x : Source) (b : Bool) (s : State) : (setPend x b s).lit = s.lit := rfl
@[simp] theorem setPend_pendT (x : Source) (b : Bool) (s : State) : (setPend x b s).pendT = if x = .t then b else s.pendT := rfl
@[simp] theorem setPend_pendA (x : Source) (b : Bool) (s : State) : (setPend x b s).pendA = if x = .a then b else s.pendA := rfl
@[simp] theorem setPend_pendB (x : Source) (b : Bool) (s : State) : (setPend x b s).pendB = if x = .b then b else s.pendB := rfl
@[simp] theorem setPend_ie (x : Source) (b : Bool) (s : State) : (setPend x b s).ie = s.ie := rfl
@[simp] theorem setPend_seq (x : Source) (b : Bool) (s : State) : (setPend x b s).seq = s.seq := rfl
@[simp] theorem setPend_cycleComplete (x : Source) (b : Bool) (s : State) : (setPend x b s).cycleComplete = s.cycleComplete := rfl
@[simp] theorem setPend_accept (x : Source) (b : Bool) (s : State) : (setPend x b s).accept = s.accept := rfl
@[simp] theorem setPend_fire (x : Source) (b : Bool) (s : State) : (setPend x b s).fire = s.fire := rfl
@[simp] theorem setPend_agenda (x : Source) (b : Bool) (s : State) : (setPend x b s).agenda = s.agenda := rfl
@[simp] theorem setPend_turnIdx (x : Source) (b : Bool) (s : State) : (setPend x b s).turnIdx = s.turnIdx := rfl
@[simp] theorem setPend_freeIdx (x : Source) (b : Bool) (s : State) : (setPend x b s).freeIdx = s.freeIdx := rfl

/-! setIe -/

@[simp] theorem setIe_cfg (b : Bool) (s : State) : (setIe b s).cfg = s.cfg := rfl
@[simp] theorem setIe_tickcnt (b : Bool) (s : State) : (setIe b s).tickcnt = s.tickcnt := rfl
@[simp] theorem setIe_elapsed (b : Bool) (s : State) : (setIe b s).elapsed = s.elapsed := rfl
@[simp] theorem setIe_press (b : Bool) (s : State) : (setIe b s).press = s.press := rfl
@[simp] theorem setIe_cool (b : Bool) (s : State) : (setIe b s).cool = s.cool := rfl
@[simp] theorem setIe_drv (b : Bool) (s : State) : (setIe b s).drv = s.drv := rfl
@[simp] theorem setIe_lit (b : Bool) (s : State) : (setIe b s).lit = s.lit := rfl
@[simp] theorem setIe_pendT (b : Bool) (s : State) : (setIe b s).pendT = s.pendT := rfl
@[simp] theorem setIe_pendA (b : Bool) (s : State) : (setIe b s).pendA = s.pendA := rfl
@[simp] theorem setIe_pendB (b : Bool) (s : State) : (setIe b s).pendB = s.pendB := rfl
@[simp] theorem setIe_ie (b : Bool) (s : State) : (setIe b s).ie = b := rfl
@[simp] theorem setIe_seq (b : Bool) (s : State) : (setIe b s).seq = s.seq := rfl
@[simp] theorem setIe_cycleComplete (b : Bool) (s : State) : (setIe b s).cycleComplete = s.cycleComplete := rfl
@[simp] theorem setIe_accept (b : Bool) (s : State) : (setIe b s).accept = s.accept := rfl
@[simp] theorem setIe_fire (b : Bool) (s : State) : (setIe b s).fire = s.fire := rfl
@[simp] theorem setIe_agenda (b : Bool) (s : State) : (setIe b s).agenda = s.agenda := rfl
@[simp] theorem setIe_turnIdx (b : Bool) (s : State) : (setIe b s).turnIdx = s.turnIdx := rfl
@[simp] theorem setIe_freeIdx (b : Bool) (s : State) : (setIe b s).freeIdx = s.freeIdx := rfl

/-! setSeq -/

@[simp] theorem setSeq_cfg (p : Option Phase) (s : State) : (setSeq p s).cfg = s.cfg := rfl
@[simp] theorem setSeq_tickcnt (p : Option Phase) (s : State) : (setSeq p s).tickcnt = s.tickcnt := rfl
@[simp] theorem setSeq_elapsed (p : Option Phase) (s : State) : (setSeq p s).elapsed = s.elapsed := rfl
@[simp] theorem setSeq_press (p : Option Phase) (s : State) : (setSeq p s).press = s.press := rfl
@[simp] theorem setSeq_cool (p : Option Phase) (s : State) : (setSeq p s).cool = s.cool := rfl
@[simp] theorem setSeq_drv (p : Option Phase) (s : State) : (setSeq p s).drv = s.drv := rfl
@[simp] theorem setSeq_lit (p : Option Phase) (s : State) : (setSeq p s).lit = s.lit := rfl
@[simp] theorem setSeq_pendT (p : Option Phase) (s : State) : (setSeq p s).pendT = s.pendT := rfl
@[simp] theorem setSeq_pendA (p : Option Phase) (s : State) : (setSeq p s).pendA = s.pendA := rfl
@[simp] theorem setSeq_pendB (p : Option Phase) (s : State) : (setSeq p s).pendB = s.pendB := rfl
@[simp] theorem setSeq_ie (p : Option Phase) (s : State) : (setSeq p s).ie = s.ie := rfl
@[simp] theorem setSeq_seq (p : Option Phase) (s : State) : (setSeq p s).seq = p := rfl
@[simp] theorem setSeq_cycleComplete (p : Option Phase) (s : State) : (setSeq p s).cycleComplete = s.cycleComplete := rfl
@[simp] theorem setSeq_accept (p : Option Phase) (s : State) : (setSeq p s).accept = s.accept := rfl
@[simp] theorem setSeq_fire (p : Option Phase) (s : State) : (setSeq p s).fire = s.fire := rfl
@[simp] theorem setSeq_agenda (p : Option Phase) (s : State) : (setSeq p s).agenda = s.agenda := rfl
@[simp] theorem setSeq_turnIdx (p : Option Phase) (s : State) : (setSeq p s).turnIdx = s.turnIdx := rfl
@[simp] theorem setSeq_freeIdx (p : Option Phase) (s : State) : (setSeq p s).freeIdx = s.freeIdx := rfl

/-! setCycleComplete -/

@[simp] theorem setCycleComplete_cfg (b : Bool) (s : State) : (setCycleComplete b s).cfg = s.cfg := rfl
@[simp] theorem setCycleComplete_tickcnt (b : Bool) (s : State) : (setCycleComplete b s).tickcnt = s.tickcnt := rfl
@[simp] theorem setCycleComplete_elapsed (b : Bool) (s : State) : (setCycleComplete b s).elapsed = s.elapsed := rfl
@[simp] theorem setCycleComplete_press (b : Bool) (s : State) : (setCycleComplete b s).press = s.press := rfl
@[simp] theorem setCycleComplete_cool (b : Bool) (s : State) : (setCycleComplete b s).cool = s.cool := rfl
@[simp] theorem setCycleComplete_drv (b : Bool) (s : State) : (setCycleComplete b s).drv = s.drv := rfl
@[simp] theorem setCycleComplete_lit (b : Bool) (s : State) : (setCycleComplete b s).lit = s.lit := rfl
@[simp] theorem setCycleComplete_pendT (b : Bool) (s : State) : (setCycleComplete b s).pendT = s.pendT := rfl
@[simp] theorem setCycleComplete_pendA (b : Bool) (s : State) : (setCycleComplete b s).pendA = s.pendA := rfl
@[simp] theorem setCycleComplete_pendB (b : Bool) (s : State) : (setCycleComplete b s).pendB = s.pendB := rfl
@[simp] theorem setCycleComplete_ie (b : Bool) (s : State) : (setCycleComplete b s).ie = s.ie := rfl
@[simp] theorem setCycleComplete_seq (b : Bool) (s : State) : (setCycleComplete b s).seq = s.seq := rfl
@[simp] theorem setCycleComplete_cycleComplete (b : Bool) (s : State) : (setCycleComplete b s).cycleComplete = b := rfl
@[simp] theorem setCycleComplete_accept (b : Bool) (s : State) : (setCycleComplete b s).accept = s.accept := rfl
@[simp] theorem setCycleComplete_fire (b : Bool) (s : State) : (setCycleComplete b s).fire = s.fire := rfl
@[simp] theorem setCycleComplete_agenda (b : Bool) (s : State) : (setCycleComplete b s).agenda = s.agenda := rfl
@[simp] theorem setCycleComplete_turnIdx (b : Bool) (s : State) : (setCycleComplete b s).turnIdx = s.turnIdx := rfl
@[simp] theorem setCycleComplete_freeIdx (b : Bool) (s : State) : (setCycleComplete b s).freeIdx = s.freeIdx := rfl

/-! setAccept -/

@[simp] theorem setAccept_cfg (b : Bool) (s : State) : (setAccept b s).cfg = s.cfg := rfl
@[simp] theorem setAccept_tickcnt (b : Bool) (s : State) : (setAccept b s).tickcnt = s.tickcnt := rfl
@[simp] theorem setAccept_elapsed (b : Bool) (s : State) : (setAccept b s).elapsed = s.elapsed := rfl
@[simp] theorem setAccept_press (b : Bool) (s : State) : (setAccept b s).press = s.press := rfl
@[simp] theorem setAccept_cool (b : Bool) (s : State) : (setAccept b s).cool = s.cool := rfl
@[simp] theorem setAccept_drv (b : Bool) (s : State) : (setAccept b s).drv = s.drv := rfl
@[simp] theorem setAccept_lit (b : Bool) (s : State) : (setAccept b s).lit = s.lit := rfl
@[simp] theorem setAccept_pendT (b : Bool) (s : State) : (setAccept b s).pendT = s.pendT := rfl
@[simp] theorem setAccept_pendA (b : Bool) (s : State) : (setAccept b s).pendA = s.pendA := rfl
@[simp] theorem setAccept_pendB (b : Bool) (s : State) : (setAccept b s).pendB = s.pendB := rfl
@[simp] theorem setAccept_ie (b : Bool) (s : State) : (setAccept b s).ie = s.ie := rfl
@[simp] theorem setAccept_seq (b : Bool) (s : State) : (setAccept b s).seq = s.seq := rfl
@[simp] theorem setAccept_cycleComplete (b : Bool) (s : State) : (setAccept b s).cycleComplete = s.cycleComplete := rfl
@[simp] theorem setAccept_accept (b : Bool) (s : State) : (setAccept b s).accept = b := rfl
@[simp] theorem setAccept_fire (b : Bool) (s : State) : (setAccept b s).fire = s.fire := rfl
@[simp] theorem setAccept_agenda (b : Bool) (s : State) : (setAccept b s).agenda = s.agenda := rfl
@[simp] theorem setAccept_turnIdx (b : Bool) (s : State) : (setAccept b s).turnIdx = s.turnIdx := rfl
@[simp] theorem setAccept_freeIdx (b : Bool) (s : State) : (setAccept b s).freeIdx = s.freeIdx := rfl

/-! setFire -/

@[simp] theorem setFire_cfg (b : Bool) (s : State) : (setFire b s).cfg = s.cfg := rfl
@[simp] theorem setFire_tickcnt (b : Bool) (s : State) : (setFire b s).tickcnt = s.tickcnt := rfl
@[simp] theorem setFire_elapsed (b : Bool) (s : State) : (setFire b s).elapsed = s.elapsed := rfl
@[simp] theorem setFire_press (b : Bool) (s : State) : (setFire b s).press = s.press := rfl
@[simp] theorem setFire_cool (b : Bool) (s : State) : (setFire b s).cool = s.cool := rfl
@[simp] theorem setFire_drv (b : Bool) (s : State) : (setFire b s).drv = s.drv := rfl
@[simp] theorem setFire_lit (b : Bool) (s : State) : (setFire b s).lit = s.lit := rfl
@[simp] theorem setFire_pendT (b : Bool) (s : State) : (setFire b s).pendT = s.pendT := rfl
@[simp] theorem setFire_pendA (b : Bool) (s : State) : (setFire b s).pendA = s.pendA := rfl
@[simp] theorem setFire_pendB (b : Bool) (s : State) : (setFire b s).pendB = s.pendB := rfl
@[simp] theorem setFire_ie (b : Bool) (s : State) : (setFire b s).ie = s.ie := rfl
@[simp] theorem setFire_seq (b : Bool) (s : State) : (setFire b s).seq = s.seq := rfl
@[simp] theorem setFire_cycleComplete (b : Bool) (s : State) : (setFire b s).cycleComplete = s.cycleComplete := rfl
@[simp] theorem setFire_accept (b : Bool) (s : State) : (setFire b s).accept = s.accept := rfl
@[simp] theorem setFire_fire (b : Bool) (s : State) : (setFire b s).fire = b := rfl
@[simp] theorem setFire_agenda (b : Bool) (s : State) : (setFire b s).agenda = s.agenda := rfl
@[simp] theorem setFire_turnIdx (b : Bool) (s : State) : (setFire b s).turnIdx = s.turnIdx := rfl
@[simp] theorem setFire_freeIdx (b : Bool) (s : State) : (setFire b s).freeIdx = s.freeIdx := rfl

/-! clearSignals -/

@[simp] theorem clearSignals_cfg (s : State) : (clearSignals s).cfg = s.cfg := rfl
@[simp] theorem clearSignals_tickcnt (s : State) : (clearSignals s).tickcnt = s.tickcnt := rfl
@[simp] theorem clearSignals_elapsed (s : State) : (clearSignals s).elapsed = s.elapsed := rfl
@[simp] theorem clearSignals_press (s : State) : (clearSignals s).press = s.press := rfl
@[simp] theorem clearSignals_cool (s : State) : (clearSignals s).cool = s.cool := rfl
@[simp] theorem clearSignals_drv (s : State) : (clearSignals s).drv = s.drv := rfl
@[simp] theorem clearSignals_lit (s : State) : (clearSignals s).lit = s.lit := rfl
@[simp] theorem clearSignals_pendT (s : State) : (clearSignals s).pendT = s.pendT := rfl
@[simp] theorem clearSignals_pendA (s : State) : (clearSignals s).pendA = s.pendA := rfl
@[simp] theorem clearSignals_pendB (s : State) : (clearSignals s).pendB = s.pendB := rfl
@[simp] theorem clearSignals_ie (s : State) : (clearSignals s).ie = s.ie := rfl
@[simp] theorem clearSignals_seq (s : State) : (clearSignals s).seq = s.seq := rfl
@[simp] theorem clearSignals_cycleComplete (s : State) : (clearSignals s).cycleComplete = false := rfl
@[simp] theorem clearSignals_accept (s : State) : (clearSignals s).accept = false := rfl
@[simp] theorem clearSignals_fire (s : State) : (clearSignals s).fire = false := rfl
@[simp] theorem clearSignals_agenda (s : State) : (clearSignals s).agenda = s.agenda := rfl
@[simp] theorem clearSignals_turnIdx (s : State) : (clearSignals s).turnIdx = s.turnIdx := rfl
@[simp] theorem clearSignals_freeIdx (s : State) : (clearSignals s).freeIdx = s.freeIdx := rfl

/-! setAgenda -/

@[simp] theorem setAgenda_cfg (l : List Turn) (s : State) : (setAgenda l s).cfg = s.cfg := rfl
@[simp] theorem setAgenda_tickcnt (l : List Turn) (s : State) : (setAgenda l s).tickcnt = s.tickcnt := rfl
@[simp] theorem setAgenda_elapsed (l : List Turn) (s : State) : (setAgenda l s).elapsed = s.elapsed := rfl
@[simp] theorem setAgenda_press (l : List Turn) (s : State) : (setAgenda l s).press = s.press := rfl
@[simp] theorem setAgenda_cool (l : List Turn) (s : State) : (setAgenda l s).cool = s.cool := rfl
@[simp] theorem setAgenda_drv (l : List Turn) (s : State) : (setAgenda l s).drv = s.drv := rfl
@[simp] theorem setAgenda_lit (l : List Turn) (s : State) : (setAgenda l s).lit = s.lit := rfl
@[simp] theorem setAgenda_pendT (l : List Turn) (s : State) : (setAgenda l s).pendT = s.pendT := rfl
@[simp] theorem setAgenda_pendA (l : List Turn) (s : State) : (setAgenda l s).pendA = s.pendA := rfl
@[simp] theorem setAgenda_pendB (l : List Turn) (s : State) : (setAgenda l s).pendB = s.pendB := rfl
@[simp] theorem setAgenda_ie (l : List Turn) (s : State) : (setAgenda l s).ie = s.ie := rfl
@[simp] theorem setAgenda_seq (l : List Turn) (s : State) : (setAgenda l s).seq = s.seq := rfl
@[simp] theorem setAgenda_cycleComplete (l : List Turn) (s : State) : (setAgenda l s).cycleComplete = s.cycleComplete := rfl
@[simp] theorem setAgenda_accept (l : List Turn) (s : State) : (setAgenda l s).accept = s.accept := rfl
@[simp] theorem setAgenda_fire (l : List Turn) (s : State) : (setAgenda l s).fire = s.fire := rfl
@[simp] theorem setAgenda_agenda (l : List Turn) (s : State) : (setAgenda l s).agenda = l := rfl
@[simp] theorem setAgenda_turnIdx (l : List Turn) (s : State) : (setAgenda l s).turnIdx = s.turnIdx := rfl
@[simp] theorem setAgenda_freeIdx (l : List Turn) (s : State) : (setAgenda l s).freeIdx = s.freeIdx := rfl

/-! useTurn -/

@[simp] theorem useTurn_cfg (s : State) : (useTurn s).cfg = s.cfg := by unfold useTurn; split <;> rfl
@[simp] theorem useTurn_tickcnt (s : State) : (useTurn s).tickcnt = s.tickcnt := by unfold useTurn; split <;> rfl
@[simp] theorem useTurn_elapsed (s : State) : (useTurn s).elapsed = s.elapsed := by unfold useTurn; split <;> rfl
@[simp] theorem useTurn_press (s : State) : (useTurn s).press = s.press := by unfold useTurn; split <;> rfl
@[simp] theorem useTurn_cool (s : State) : (useTurn s).cool = s.cool := by unfold useTurn; split <;> rfl
@[simp] theorem useTurn_drv (s : State) : (useTurn s).drv = s.drv := by unfold useTurn; split <;> rfl
@[simp] theorem useTurn_lit (s : State) : (useTurn s).lit = s.lit := by unfold useTurn; split <;> rfl
@[simp] theorem useTurn_pendT (s : State) : (useTurn s).pendT = s.pendT := by unfold useTurn; split <;> rfl
@[simp] theorem useTurn_pendA (s : State) : (useTurn s).pendA = s.pendA := by unfold useTurn; split <;> rfl
@[simp] theorem useTurn_pendB (s : State) : (useTurn s).pendB = s.pendB := by unfold useTurn; split <;> rfl
@[simp] theorem useTurn_ie (s : State) : (useTurn s).ie = s.ie := by unfold useTurn; split <;> rfl
@[simp] theorem useTurn_seq (s : State) : (useTurn s).seq = s.seq := by unfold useTurn; split <;> rfl
@[simp] theorem useTurn_cycleComplete (s : State) : (useTurn s).cycleComplete = s.cycleComplete := by unfold useTurn; split <;> rfl
@[simp] theorem useTurn_accept (s : State) : (useTurn s).accept = s.accept := by unfold useTurn; split <;> rfl
@[simp] theorem useTurn_fire (s : State) : (useTurn s).fire = s.fire := by unfold useTurn; split <;> rfl
@[simp] theorem useTurn_freeIdx (s : State) : (useTurn s).freeIdx = s.freeIdx := by unfold useTurn; split <;> rfl

theorem useTurn_nil {s : State} (h : s.agenda = []) : useTurn s = { s with turnIdx := s.turnIdx + 1 } := by
  unfold useTurn; rw [h]

theorem useTurn_cons {s : State} {t : Turn} {rest : List Turn} (h : s.agenda = t :: rest) :
    useTurn s = { s with agenda := rest } := by
  unfold useTurn; rw [h]

theorem nextTurn_cons {s : State} {t : Turn} {rest : List Turn} (h : s.agenda = t :: rest) : nextTurn s = t := by
  unfold nextTurn; rw [h]

/-! bumpFree -/

@[simp] theorem bumpFree_cfg (s : State) : (bumpFree s).cfg = s.cfg := rfl
@[simp] theorem bumpFree_tickcnt (s : State) : (bumpFree s).tickcnt = s.tickcnt := rfl
@[simp] theorem bumpFree_elapsed (s : State) : (bumpFree s).elapsed = s.elapsed := rfl
@[simp] theorem bumpFree_press (s : State) : (bumpFree s).press = s.press := rfl
@[simp] theorem bumpFree_cool (s : State) : (bumpFree s).cool = s.cool := rfl
@[simp] theorem bumpFree_drv (s : State) : (bumpFree s).drv = s.drv := rfl
@[simp] theorem bumpFree_lit (s : State) : (bumpFree s).lit = s.lit := rfl
@[simp] theorem bumpFree_pendT (s : State) : (bumpFree s).pendT = s.pendT := rfl
@[simp] theorem bumpFree_pendA (s : State) : (bumpFree s).pendA = s.pendA := rfl
@[simp] theorem bumpFree_pendB (s : State) : (bumpFree s).pendB = s.pendB := rfl
@[simp] theorem bumpFree_ie (s : State) : (bumpFree s).ie = s.ie := rfl
@[simp] theorem bumpFree_seq (s : State) : (bumpFree s).seq = s.seq := rfl
@[simp] theorem bumpFree_cycleComplete (s : State) : (bumpFree s).cycleComplete = s.cycleComplete := rfl
@[simp] theorem bumpFree_accept (s : State) : (bumpFree s).accept = s.accept := rfl
@[simp] theorem bumpFree_fire (s : State) : (bumpFree s).fire = s.fire := rfl
@[simp] theorem bumpFree_agenda (s : State) : (bumpFree s).agenda = s.agenda := rfl
@[simp] theorem bumpFree_turnIdx (s : State) : (bumpFree s).turnIdx = s.turnIdx := rfl
@[simp] theorem bumpFree_freeIdx (s : State) : (bumpFree s).freeIdx = s.freeIdx + 1 := rfl

/-! The reset and launch states. -/

@[simp] theorem resetWith_cfg (c : Config) : (State.resetWith c).cfg = c := rfl
@[simp] theorem resetWith_tickcnt (c : Config) : (State.resetWith c).tickcnt = 0 := rfl
@[simp] theorem resetWith_elapsed (c : Config) : (State.resetWith c).elapsed = 0 := rfl
@[simp] theorem resetWith_press (c : Config) : (State.resetWith c).press = 0 := rfl
@[simp] theorem resetWith_cool (c : Config) : (State.resetWith c).cool = 0 := rfl
@[simp] theorem resetWith_drv (c : Config) : (State.resetWith c).drv = false := rfl
@[simp] theorem resetWith_lit (c : Config) : (State.resetWith c).lit = false := rfl
@[simp] theorem resetWith_pendT (c : Config) : (State.resetWith c).pendT = false := rfl
@[simp] theorem resetWith_pendA (c : Config) : (State.resetWith c).pendA = false := rfl
@[simp] theorem resetWith_pendB (c : Config) : (State.resetWith c).pendB = false := rfl
@[simp] theorem resetWith_ie (c : Config) : (State.resetWith c).ie = false := rfl
@[simp] theorem resetWith_seq (c : Config) : (State.resetWith c).seq = none := rfl
@[simp] theorem resetWith_cycleComplete (c : Config) : (State.resetWith c).cycleComplete = false := rfl
@[simp] theorem resetWith_accept (c : Config) : (State.resetWith c).accept = false := rfl
@[simp] theorem resetWith_fire (c : Config) : (State.resetWith c).fire = false := rfl
@[simp] theorem resetWith_agenda (c : Config) : (State.resetWith c).agenda = [] := rfl
@[simp] theorem resetWith_turnIdx (c : Config) : (State.resetWith c).turnIdx = 0 := rfl
@[simp] theorem resetWith_freeIdx (c : Config) : (State.resetWith c).freeIdx = 0 := rfl

@[simp] theorem launch_cfg (c : Config) : (State.launch c).cfg = c := rfl
@[simp] theorem launch_tickcnt (c : Config) : (State.launch c).tickcnt = 0 := rfl
@[simp] theorem launch_elapsed (c : Config) : (State.launch c).elapsed = 0 := rfl
@[simp] theorem launch_press (c : Config) : (State.launch c).press = 0 := rfl
@[simp] theorem launch_cool (c : Config) : (State.launch c).cool = 0 := rfl
@[simp] theorem launch_drv (c : Config) : (State.launch c).drv = false := rfl
@[simp] theorem launch_lit (c : Config) : (State.launch c).lit = false := rfl
@[simp] theorem launch_pendT (c : Config) : (State.launch c).pendT = false := rfl
@[simp] theorem launch_pendA (c : Config) : (State.launch c).pendA = false := rfl
@[simp] theorem launch_pendB (c : Config) : (State.launch c).pendB = false := rfl
@[simp] theorem launch_ie (c : Config) : (State.launch c).ie = true := rfl
@[simp] theorem launch_seq (c : Config) : (State.launch c).seq = none := rfl
@[simp] theorem launch_cycleComplete (c : Config) : (State.launch c).cycleComplete = false := rfl
@[simp] theorem launch_accept (c : Config) : (State.launch c).accept = false := rfl
@[simp] theorem launch_fire (c : Config) : (State.launch c).fire = false := rfl
@[simp] theorem launch_agenda (c : Config) : (State.launch c).agenda = [] := rfl
@[simp] theorem launch_turnIdx (c : Config) : (State.launch c).turnIdx = 0 := rfl
@[simp] theorem launch_freeIdx (c : Config) : (State.launch c).freeIdx = 0 := rfl

/-! The pending latch of a source, and RESET. -/

@[simp] theorem pend_setPend (x y : Source) (b : Bool) (s : State) :
    pend (setPend x b s) y = if x = y then b else pend s y := by
  cases y <;> rfl

@[simp] theorem toReset_cfg (s : State) : (toReset s).cfg = s.cfg := rfl
@[simp] theorem toReset_agenda (s : State) : (toReset s).agenda = s.agenda := rfl
@[simp] theorem toReset_turnIdx (s : State) : (toReset s).turnIdx = s.turnIdx := rfl
@[simp] theorem toReset_freeIdx (s : State) : (toReset s).freeIdx = s.freeIdx := rfl

end Sys2Proof.Machine
end

