-- ==== Sys2Proof/Laws/Exec.lean ====
section
/-! SUPPORT. What the shared operations and the phases do, each said once: later proofs cite these and unfold nothing. -/

namespace Sys2Proof.Machine

/-! The form of a meaning. -/

theorem perform_of_wf (f : State → State) {s : State} (h : s.cfg.wf = true) : perform f s = .next (f s) :=
  if_pos h

theorem perform_of_not_wf (f : State → State) {s : State} (h : s.cfg.wf = false) :
    perform f s = .refused .illFormedConfig :=
  if_neg (by rw [h]; exact Bool.false_ne_true)

theorem perform_eq_next {f : State → State} {s t : State} :
    perform f s = .next t ↔ s.cfg.wf = true ∧ t = f s := by
  unfold perform
  split
  · next h => exact ⟨fun e => ⟨h, (Host.Outcome.next.inj e).symm⟩, fun ⟨_, e⟩ => e ▸ rfl⟩
  · next h => exact ⟨fun e => (nomatch e), fun ⟨hw, _⟩ => absurd hw h⟩

theorem andThen_eq_next {o : Host.Outcome State Fault Refusal} {f : State → State} {t : State} :
    andThen o f = .next t ↔ ∃ u, o = .next u ∧ t = f u := by
  cases o <;> simp [andThen, eq_comm]

/-! The effect of each operation as a function, and the one fact that ties `exec` to it. -/

/-- The state each operation makes, under a well-formed configuration. -/
def effect : Instr → State → State
  | .idle => id
  | .tick => operation fourPhases
  | .edgeA => operation edgeAOp
  | .edgeB => operation (actuator false)
  | .tb => tbPhase
  | .ind => indPhase
  | .auto => autoPhase
  | .deb => debPhase
  | .dStop => dStopOp
  | .dReset => dResetOp
  | .dSpin => dSpinOp
  | .dNop _ => dNopOp
  | .dispatch => dispatchOp
  | .reset => toReset
  | .start => setIe true
  | .notifyT => setPend .t true
  | .notifyA => setPend .a true
  | .notifyB => setPend .b true

theorem exec_eq_perform (i : Instr) (s : State) : exec i s = perform (effect i) s := by
  cases i <;> rfl

theorem exec_eq_next {i : Instr} {s t : State} :
    exec i s = .next t ↔ s.cfg.wf = true ∧ t = effect i s := by
  rw [exec_eq_perform, perform_eq_next]

theorem exec_of_wf (i : Instr) {s : State} (h : s.cfg.wf = true) : exec i s = .next (effect i s) :=
  exec_eq_next.mpr ⟨h, rfl⟩

theorem exec_of_not_wf (i : Instr) {s : State} (h : s.cfg.wf = false) :
    exec i s = .refused .illFormedConfig := by
  rw [exec_eq_perform, perform_of_not_wf _ h]

/-! What each phase and action writes, as one record. -/

theorem tbPhase_eq (s : State) : tbPhase s =
    { s with
      tickcnt := if secondWraps s then 0 else s.tickcnt + 1
      elapsed := if secondWraps s then nextSecond s.cfg s.elapsed else s.elapsed
      cycleComplete := cycleCompleteOf s } := by
  unfold tbPhase
  split <;> simp_all [setCycleComplete, setTickcnt, setElapsed]

theorem indPhase_eq (s : State) : indPhase s = { s with lit := blink s.elapsed } := rfl

theorem autoPhase_eq (s : State) : autoPhase s = { s with drv := s.cycleComplete || s.drv } := by
  unfold autoPhase actuator
  cases h : s.cycleComplete <;> cases h' : s.drv <;> cases s <;> simp_all

theorem dispatchOp_eq (s : State) : dispatchOp s =
    { s with
      press := 0
      elapsed := if s.press = 2 then 0 else s.elapsed
      drv := if s.press = 1 then false else if s.press = 3 then true else s.drv } := by
  unfold dispatchOp selectAction
  split <;> simp_all [runAction, dStopOp, dResetOp, dSpinOp, dNopOp, setPress, setElapsed, actuator]

theorem debPhase_eq (s : State) : debPhase s =
    { s with
      fire := fireOf s
      cool := s.cool - 1
      press := if s.cool = 0 then 0 else s.press
      elapsed := if s.cool = 0 ∧ s.press = 2 then 0 else s.elapsed
      drv := if s.cool = 0 ∧ s.press = 1 then false
        else if s.cool = 0 ∧ s.press = 3 then true else s.drv } := by
  unfold debPhase
  obtain hc | hc := Nat.eq_zero_or_pos s.cool
  · obtain hp | hp := Nat.eq_zero_or_pos s.press
    · cases s; simp_all [fireOf, setFire]
    · simp [fireOf, hc, hp, dispatchOp_eq, setFire]
  · have hc' : s.cool ≠ 0 := by omega
    simp [fireOf, hc, hc', setCool, setFire]

theorem edgeAOp_eq (s : State) : edgeAOp s =
    { s with
      accept := acceptOf s
      press := if acceptOf s then satInc s.cfg s.press else s.press
      cool := if acceptOf s then s.cfg.top else s.cool } := by
  cases h : acceptOf s <;> simp [edgeAOp, h, setAccept, setCool, setPress]

/-! The whole of each top-level operation that runs a handler, as one record. -/

/-- ELAPSED after phase TB (40_tick_time_base.md R62). -/
def elapsedAfterTb (s : State) : Nat := if secondWraps s then nextSecond s.cfg s.elapsed else s.elapsed

theorem tick_effect (s : State) : effect .tick s =
    { s with
      tickcnt := if secondWraps s then 0 else s.tickcnt + 1
      elapsed := if s.cool = 0 ∧ s.press = 2 then 0 else elapsedAfterTb s
      press := if s.cool = 0 then 0 else s.press
      cool := s.cool - 1
      drv := if s.cool = 0 ∧ s.press = 1 then false
        else if s.cool = 0 ∧ s.press = 3 then true else cycleCompleteOf s || s.drv
      lit := blink (elapsedAfterTb s)
      seq := none
      cycleComplete := false
      accept := false
      fire := false } := by
  simp only [effect, operation, fourPhases, runPhase, debPhase_eq, autoPhase_eq, indPhase_eq, tbPhase_eq,
    setSeq, clearSignals]
  rfl

theorem edgeA_effect (s : State) : effect .edgeA s =
    { s with
      press := if acceptOf s then satInc s.cfg s.press else s.press
      cool := if acceptOf s then s.cfg.top else s.cool
      cycleComplete := false
      accept := false
      fire := false } := by
  simp only [effect, operation, edgeAOp_eq, clearSignals]
  rfl

theorem edgeB_effect (s : State) : effect .edgeB s =
    { s with drv := false, cycleComplete := false, accept := false, fire := false } := rfl

/-- No operation changes the configuration, the agenda or the counts of free turns and choices. -/
theorem effect_frame (i : Instr) (s : State) :
    (effect i s).cfg = s.cfg ∧ (effect i s).agenda = s.agenda ∧ (effect i s).turnIdx = s.turnIdx ∧
      (effect i s).freeIdx = s.freeIdx := by
  cases i with
  | tick => rw [tick_effect]; exact ⟨rfl, rfl, rfl, rfl⟩
  | edgeA => rw [edgeA_effect]; exact ⟨rfl, rfl, rfl, rfl⟩
  | tb => simp [effect, tbPhase_eq]
  | auto => simp [effect, autoPhase_eq]
  | deb => simp [effect, debPhase_eq]
  | dispatch => simp [effect, dispatchOp_eq]
  | _ => exact ⟨rfl, rfl, rfl, rfl⟩

@[simp] theorem effect_cfg (i : Instr) (s : State) : (effect i s).cfg = s.cfg := (effect_frame i s).1

@[simp] theorem effect_agenda (i : Instr) (s : State) : (effect i s).agenda = s.agenda := (effect_frame i s).2.1

@[simp] theorem effect_turnIdx (i : Instr) (s : State) : (effect i s).turnIdx = s.turnIdx := (effect_frame i s).2.2.1

@[simp] theorem effect_freeIdx (i : Instr) (s : State) : (effect i s).freeIdx = s.freeIdx := (effect_frame i s).2.2.2

end Sys2Proof.Machine
end

