-- ==== Sys2Proof/Laws/PerInstr.lean ====
section
/-! SUPPORT. The family CodeFits: what holds of every operation as syntax, one lemma per constructor. -/

namespace Sys2Proof.Laws.CodeFits

/-- The code word of a well-formed operation, where it has one (30_encoding.md R51), has the length of its format (R42), for every
legal width of PRESS (00_scope.md R5). -/
def Statement (i : Instr) : Prop :=
  ∀ pressW : Nat, 3 ≤ pressW → i.wf pressW = true → ∀ w, encode i = some w → w.fits pressW = true

/-- Three bits fit every legal DS word. -/
theorem ds_fits {pressW b : Nat} (hp : 3 ≤ pressW) (hb : b < 8) :
    CodeWord.fits pressW { format := .ds, bits := b } = true := by
  have h : 2 ^ 3 ≤ 2 ^ pressW := Nat.pow_le_pow_right (by omega) hp
  exact decide_eq_true (Nat.lt_of_lt_of_le hb h)

theorem idle : Statement .idle := fun _ _ _ _ h => Option.some.inj h ▸ rfl
theorem tick : Statement .tick := fun _ _ _ _ h => Option.some.inj h ▸ rfl
theorem edgeA : Statement .edgeA := fun _ _ _ _ h => Option.some.inj h ▸ rfl
theorem edgeB : Statement .edgeB := fun _ _ _ _ h => Option.some.inj h ▸ rfl
theorem tb : Statement .tb := fun _ _ _ _ h => Option.some.inj h ▸ rfl
theorem ind : Statement .ind := fun _ _ _ _ h => Option.some.inj h ▸ rfl
theorem auto : Statement .auto := fun _ _ _ _ h => Option.some.inj h ▸ rfl
theorem deb : Statement .deb := fun _ _ _ _ h => Option.some.inj h ▸ rfl
theorem dStop : Statement .dStop := fun _ hp _ _ h => Option.some.inj h ▸ ds_fits hp (by omega)
theorem dReset : Statement .dReset := fun _ hp _ _ h => Option.some.inj h ▸ ds_fits hp (by omega)
theorem dSpin : Statement .dSpin := fun _ hp _ _ h => Option.some.inj h ▸ ds_fits hp (by omega)
theorem dNop (sel : Nat) : Statement (.dNop sel) := by
  intro p _ hi w h
  simp only [Instr.wf, Bool.and_eq_true] at hi
  exact Option.some.inj h ▸ hi.2
theorem dispatch : Statement .dispatch := fun _ _ _ _ h => nomatch h
theorem reset : Statement .reset := fun _ _ _ _ h => nomatch h
theorem start : Statement .start := fun _ _ _ _ h => nomatch h
theorem notifyT : Statement .notifyT := fun _ _ _ _ h => nomatch h
theorem notifyA : Statement .notifyA := fun _ _ _ _ h => nomatch h
theorem notifyB : Statement .notifyB := fun _ _ _ _ h => nomatch h

end Sys2Proof.Laws.CodeFits
end

