-- ==== Sys2Proof/Laws/Step.lean ====
section
/-! SUPPORT. What the collator and one step can do, said once. -/

namespace Sys2Proof.Machine

/-- The operation a served source runs (60_exceptions.md R108). -/
theorem decodeOp_opCode (x : Source) :
    decodeOp (opCode (some x)) = (match x with | .t => .tick | .a => .edgeA | .b => .edgeB) := by
  cases x <;> rfl

/-- Whatever the free choice, the pick is a pending source that the arbiter allows. -/
theorem pick_enabled {n : Nat} {s : State} {x : Source} (h : pick n s = some x) :
    pend s x = true ∧ arbAllows s x = true := by
  have hmem : x ∈ candidates s := by
    unfold pick at h
    split at h
    · cases h
    · next y hc => simp_all
    · next y z rest hc =>
      rw [hc]
      have hlt : n % (rest.length + 2) < (y :: z :: rest).length :=
        Nat.mod_lt _ (by simp)
      rw [List.getD_eq_getElem _ _ hlt] at h
      exact Option.some.inj h ▸ List.getElem_mem _
  simpa [candidates] using (List.mem_filter.mp hmem).2

/-- A grant goes to a pending source that the arbiter allows. -/
theorem grant_enabled {s : State} {x : Source} (h : grant s = some x) :
    pend s x = true ∧ arbAllows s x = true :=
  pick_enabled h

/-- Nothing is picked only when there is no candidate. -/
theorem pick_eq_none {n : Nat} {s : State} : pick n s = none ↔ candidates s = [] := by
  unfold pick
  split <;> simp_all

/-- Under a well-formed ARB the highest pending source is allowed, so nothing is granted only when nothing is pending. -/
theorem grant_eq_none {s : State} (hwf : s.cfg.wf = true) :
    grant s = none ↔ s.pendT = false ∧ s.pendA = false ∧ s.pendB = false := by
  rw [grant, pick_eq_none]
  have harb : s.cfg.arb.wf = true := by simp [Config.wf] at hwf; exact hwf.2
  cases harb' : s.cfg.arb with
  | free =>
    cases ht : s.pendT <;> cases ha : s.pendA <;> cases hb : s.pendB <;>
      simp [candidates, arbAllows, higher, pend, harb', ht, ha, hb]
  | order p q r =>
    rw [harb'] at harb
    cases ht : s.pendT <;> cases ha : s.pendA <;> cases hb : s.pendB <;>
      cases p <;> cases q <;> cases r <;>
      simp_all [Arb.wf, candidates, arbAllows, higher, pend]

/-- Drawing a free choice changes nothing else. -/
theorem afterGrant_eq (s : State) : ∃ n, afterGrant s = { s with freeIdx := n } := by
  unfold afterGrant
  split
  · exact ⟨s.freeIdx + 1, rfl⟩
  · exact ⟨s.freeIdx, rfl⟩

/-- A step under a well-formed configuration is one turn. -/
theorem step_of_wf {s : State} (h : s.cfg.wf = true) : step s = takeTurn s := if_pos h

/-- serve(x) under a well-formed configuration: entry, the effect of its operation, return. -/
theorem serve_of_wf (x : Source) {s : State} (h : s.cfg.wf = true) :
    serve x s = .next (setIe true (effect (decodeOp (opCode (some x))) (setIe false (setPend x false s)))) := by
  unfold serve enter leave
  rw [exec_of_wf _ (by simpa using h)]
  rfl

/-- The turn used up plays no part in the arbiter's grant. -/
@[simp] theorem grant_useTurn (s : State) : grant (useTurn s) = grant s := by
  simp [grant, pick, candidates, arbAllows, pend]

theorem nextEvent_of_pin {s : State} {p : Pin} (h : nextTurn s = .pin p) : nextEvent s = .pin p := by
  simp only [nextEvent, h]

theorem nextEvent_of_dispatcher {s : State} (h : nextTurn s = .dispatcher) :
    nextEvent s = if s.ie then (grant s).elim .idle .serve else .held := by
  simp only [nextEvent, h]
  cases grant s <;> rfl

/-- What a step does, by whose turn it is and what it finds. -/
theorem nextEvent_cases (s : State) :
    (∃ p, nextTurn s = .pin p ∧ nextEvent s = .pin p) ∨
    (∃ x, nextTurn s = .dispatcher ∧ s.ie = true ∧ grant s = some x ∧ nextEvent s = .serve x) ∨
    (nextTurn s = .dispatcher ∧ s.ie = true ∧ grant s = none ∧ nextEvent s = .idle) ∨
    (nextTurn s = .dispatcher ∧ s.ie = false ∧ nextEvent s = .held) := by
  cases ht : nextTurn s with
  | pin p => exact .inl ⟨p, rfl, nextEvent_of_pin ht⟩
  | dispatcher =>
    have he := nextEvent_of_dispatcher ht
    cases hi : s.ie with
    | false => exact .inr (.inr (.inr ⟨rfl, rfl, by rw [he, hi]; rfl⟩))
    | true =>
      cases hg : grant s with
      | none => exact .inr (.inr (.inl ⟨rfl, rfl, rfl, by rw [he, hi, hg]; rfl⟩))
      | some x => exact .inr (.inl ⟨x, rfl, rfl, rfl, by rw [he, hi, hg]; rfl⟩)

/-- Everything a step that answers a next state can have done: one case for each event of R105, and the hold of R132. -/
theorem step_cases {s t : State} (h : step s = .next t) : s.cfg.wf = true ∧
    ((∃ p, nextEvent s = .pin p ∧ nextTurn s = .pin p ∧ t = effect p.instr (useTurn s)) ∨
     (∃ x n, nextEvent s = .serve x ∧ s.ie = true ∧ pend s x = true ∧ arbAllows s x = true ∧
        t = setIe true (effect (decodeOp (opCode (some x)))
              (setIe false (setPend x false { useTurn s with freeIdx := n })))) ∨
     (nextEvent s = .idle ∧ s.ie = true ∧ grant s = none ∧ t = useTurn s) ∨
     (nextEvent s = .held ∧ s.ie = false ∧ t = useTurn s)) := by
  unfold step at h
  split at h
  · next hwf =>
    refine ⟨hwf, ?_⟩
    unfold takeTurn at h
    obtain ⟨p, ht, he⟩ | ⟨x, -, hi, hg, he⟩ | ⟨-, hi, hg, he⟩ | ⟨-, hi, he⟩ := nextEvent_cases s <;> rw [he] at h
    · exact .inl ⟨p, he, ht, (exec_eq_next.mp h).2⟩
    · obtain ⟨hp, ha⟩ := grant_enabled hg
      obtain ⟨n, hn⟩ := afterGrant_eq (useTurn s)
      simp only [runEvent] at h
      rw [hn, serve_of_wf x (by simpa using hwf)] at h
      exact .inr (.inl ⟨x, n, he, hi, hp, ha, (Host.Outcome.next.inj h).symm⟩)
    · exact .inr (.inr (.inl ⟨he, hi, hg, (exec_eq_next (i := .idle).mp h).2⟩))
    · exact .inr (.inr (.inr ⟨he, hi, (Host.Outcome.next.inj h).symm⟩))
  · cases h

end Sys2Proof.Machine
end

