-- ==== Sys2Proof/Laws/Trace.lean ====
section
/-! SUPPORT. Running a trace, and running the machine, one operation at a time. -/

namespace Sys2Proof.Machine

@[simp] theorem runTrace_nil (s : State) : runTrace [] s = .next s := rfl

/-- A trace runs its first operation, then the rest. -/
theorem runTrace_cons (l : Letter) (tr : List Letter) {s : State} (h : s.cfg.wf = true) :
    runTrace (l :: tr) s = runTrace tr (effect l.instr s) := by
  simp [runTrace, exec_of_wf _ h]

/-- A trace that runs can be followed by another. -/
theorem runTrace_append {a b : List Letter} {s t : State} (h : runTrace a s = .next t) :
    runTrace (a ++ b) s = runTrace b t := by
  induction a generalizing s with
  | nil => cases h; rfl
  | cons l a ih =>
    simp only [runTrace, List.cons_append] at h ⊢
    cases he : exec l.instr s with
    | next u => rw [he] at h; exact ih h
    | fault r => cases r
    | refused r => rw [he] at h; cases h

theorem ticks_succ (n : Nat) : ticks (n + 1) = .t :: ticks n := rfl

theorem ticks_add (m n : Nat) : ticks (m + n) = ticks m ++ ticks n := by
  simp [ticks, List.replicate_append_replicate]

/-- One step of `Host.Core.run`, for any machine. -/
theorem run_succ (M : Host.Core) (k : Nat) (s t : M.State) (h : M.step s = .next t) :
    M.run (k + 1) s = M.run k t := by
  rw [Host.Core.run, h]

/-- One step of this machine's run. -/
theorem core_run_succ (k : Nat) {s t : State} (h : step s = .next t) :
    Sys2Proof.core.run (k + 1) s = Sys2Proof.core.run k t :=
  run_succ Sys2Proof.core k s t h

end Sys2Proof.Machine
end

