-- ==== Sys2Proof/Laws/Run.lean ====
section
/-! SUPPORT. What one event of a run can do, and the traces of steps, each said once. -/

namespace Sys2Proof.Machine

/-- What a step performs is enabled. -/
theorem nextEvent_enabled {s : State} (hwf : s.cfg.wf = true) : eventEnabled (nextEvent s) s = true := by
  obtain ⟨p, -, he⟩ | ⟨x, -, hi, hg, he⟩ | ⟨-, hi, hg, he⟩ | ⟨-, hi, he⟩ := nextEvent_cases s <;> rw [he]
  · rfl
  · obtain ⟨hp, ha⟩ := grant_enabled hg
    simp [eventEnabled, serveEnabled, hi, hp, ha]
  · obtain ⟨ht, ha, hb⟩ := (grant_eq_none hwf).mp hg
    simp [eventEnabled, idleEnabled, hi, ht, ha, hb]
  · simp [eventEnabled, hi]

/-- Everything an event of a run can do: one case for each event. -/
theorem runEvent_of_wf (e : Event) {s : State} (hwf : s.cfg.wf = true) : runEvent e s = .next
    (match e with
      | .pin p => effect p.instr s
      | .serve x => setIe true (effect (decodeOp (opCode (some x))) (setIe false (setPend x false (afterGrant s))))
      | .idle => s
      | .held => s) := by
  obtain ⟨n, hn⟩ := afterGrant_eq s
  cases e with
  | pin p => exact exec_of_wf _ hwf
  | serve x => exact serve_of_wf x (by rw [hn]; exact hwf)
  | idle => exact exec_of_wf .idle hwf
  | held => rfl

/-- A pin can stand in any state: "always enabled" (R105). -/
@[simp] theorem eventEnabled_pin (p : Pin) (s : State) : eventEnabled (.pin p) s = true := rfl

@[simp] theorem stepTrace_zero (s : State) : stepTrace 0 s = [] := rfl

/-- One step's letter, then those of the rest. -/
theorem stepTrace_succ (n : Nat) {s t : State} (h : step s = .next t) :
    stepTrace (n + 1) s = (nextEvent s).letter.toList ++ stepTrace n t := by
  rw [stepTrace, h]

end Sys2Proof.Machine
end

