-- ==== Sys2Proof/Laws/Safety.lean ====
section
/-! SUPPORT. Reading a next state out of an outcome. -/

namespace Sys2Proof.Machine

theorem nextOf_eq_some {o : Host.Outcome State Fault Refusal} {t : State} : nextOf o = some t ↔ o = .next t := by
  cases o <;> simp [nextOf]

end Sys2Proof.Machine
end

