-- ==== Sys2Proof/Tests/Slice0.lean ====
section
/-! SUPPORT. The model's own tests: ill-formed terms, words written out from the tables, vectors of 95_test_vectors.md (named in each
comment), and for each statement with hypotheses a state that meets them. -/

namespace Sys2Proof.Tests

open Sys2Proof Sys2Proof.Machine

/-- The tuple `(TICKCNT, ELAPSED, PRESS, COOL, DRV, LIT) [0 0 0 | 1]` of the vectors, with 0 and 1 for the bits. -/
def st (c : Config) (t e p k d l : Nat) : State :=
  { State.launch c with tickcnt := t, elapsed := e, press := p, cool := k, drv := d == 1, lit := l == 1 }

/-- The same in CFG_REF. -/
def ref (t e p k d l : Nat) : State := st Config.reference t e p k d l

/-- The latches and IE, as `[PEND_T PEND_A PEND_B | IE]`. -/
def col (s : State) (t a b i : Nat) : State :=
  { s with pendT := t == 1, pendA := a == 1, pendB := b == 1, ie := i == 1 }

/-- The same state at a turn of the dispatcher. -/
def go (s : State) : State := { s with agenda := [.dispatcher] }

/-- CFG_REF with the reference arbiter B > A > T (60 R109). -/
def refBAT : Config := { Config.reference with arb := .order .b .a .t }

/-- V-R7's configuration: GUARD = TOP. -/
def badGuard : Config := { Config.reference with top := 10 }

/-! ## Well-formedness: an ill-formed term for each check -/

theorem test_wf_configs : Config.reference.wf = true ∧ Config.small.wf = true ∧ refBAT.wf = true := by decide

theorem test_ill_formed_configs :
    [{ Config.reference with tps := 0 }, { Config.reference with period := 0 },
     { Config.reference with top := 0, guard := 0 }, badGuard, { Config.reference with m := 0 },
     { Config.reference with m := 2 }, { Config.reference with m := 0, magW := 0 },
     { Config.reference with pressW := 2 }, { Config.reference with arb := .order .b .b .t },
     { Config.reference with arb := .order .b .a .b }, { Config.reference with arb := .order .b .a .a }].map Config.wf
      = List.replicate 11 false := by decide

theorem test_ill_formed_instrs :
    [Instr.dNop 1, .dNop 2, .dNop 3, .dNop 256].map (Instr.wf 8) = [false, false, false, false] := by decide

theorem test_well_formed_instrs :
    [Instr.dNop 0, .dNop 4, .dNop 255, .tick, .dStop].map (Instr.wf 8) = [true, true, true, true, true] := by decide

/-! ## Words written out from 30_encoding.md R43 to R45 -/

theorem test_decode_op :
    [0b00#2, 0b01#2, 0b10#2, 0b11#2].map decodeOp = [.idle, .tick, .edgeA, .edgeB] := by decide

theorem test_decode_ph :
    [0b00#2, 0b01#2, 0b10#2, 0b11#2].map (fun c => (decodePhase c).instr) = [.tb, .ind, .auto, .deb] := by decide

theorem test_decode_ds :
    [0b00000001, 0b00000010, 0b00000011].map (fun n => (decode 8 { format := .ds, bits := n }).toOption)
      = [some .dStop, some .dReset, some .dSpin] := by decide

/-- One word of each of the seven D_NOP rows. -/
theorem test_decode_ds_nop :
    [0b00000110, 0b00001101, 0b00010000, 0b00111111, 0b01000001, 0b10000011, 0b00000000].map
      (fun n => (decode 8 { format := .ds, bits := n }).toOption)
      = [some (.dNop 6), some (.dNop 13), some (.dNop 16), some (.dNop 63), some (.dNop 65), some (.dNop 131),
         some (.dNop 0)] := by decide

theorem test_no_code :
    [Instr.dispatch, .reset, .start, .notifyT, .notifyA, .notifyB].map encode = List.replicate 6 none := by decide

/-- No two rows of one format share a word. -/
theorem test_rows_disjoint :
    opcodeRows.Pairwise (fun r q => r.format = q.format → (r.pattern ^^^ q.pattern) &&& (r.mask &&& q.mask) ≠ 0) := by decide

/-- The encodings of programs P1 and P3 (95, part 3). -/
theorem test_trace_codes :
    encodeTrace [.t, .t, .t, .t, .t, .t, .b, .t] = 0x555D ∧
    encodeTrace [.t, .t, .a, .t, .t, .a, .t, .t, .t, .t, .t, .t] = 0x596555 := by decide

/-- R53: the source's "edges at ticks 0, 5, 45", one after the other, is `A T^5 A T^40 A`. -/
theorem test_edges_at_ticks :
    edgeAt .a 45 (edgeAt .a 5 (edgeAt .a 0 [])) = .a :: ticks 5 ++ .a :: ticks 40 ++ [.a] := by decide

/-- S2: PRESS(3) in CFG_SMALL is `A T T A T T A`. -/
theorem test_presses : presses Config.small 3 = [.a, .t, .t, .a, .t, .t, .a] := by decide

/-! ## Vectors -/

/-- V-I1. -/
theorem test_idle : nextOf (exec .idle (ref 3 1 2 9 1 1)) = some (ref 3 1 2 9 1 1) := by decide

/-- V-AU4: trigger, then D_STOP, in one TICK. -/
theorem test_tick_stop_wins : nextOf (exec .tick (ref 49 19 1 0 0 0)) = some (ref 0 0 0 0 0 0) := by decide

/-- V-IND5: lit with ELAPSED = 0 after a D_RESET. -/
theorem test_tick_reset_lags : nextOf (exec .tick (ref 49 0 2 0 0 0)) = some (ref 0 0 0 0 0 1) := by decide

/-- V-A3 and V-A8. -/
theorem test_edge_a_accepted :
    nextOf (exec .edgeA (ref 7 5 1 39 0 0)) = some (ref 7 5 2 50 0 0) ∧
    nextOf (exec .edgeA (ref 7 5 255 0 0 0)) = some (ref 7 5 255 50 0 0) := by decide

/-- V-A4. -/
theorem test_edge_a_rejected : nextOf (exec .edgeA (ref 7 5 1 40 0 0)) = some (ref 7 5 1 40 0 0) := by decide

/-- V-B1. -/
theorem test_edge_b : nextOf (exec .edgeB (ref 12 0 3 27 1 0)) = some (ref 12 0 3 27 0 0) := by decide

/-- R62's worked example: `49, 7` gives `0, 8`, no signal. -/
theorem test_tb_second : nextOf (exec .tb (ref 49 7 0 0 0 0)) = some (ref 0 8 0 0 0 0) := by decide

/-- R62's worked example: `49, 19` gives `0, 0` with `cycle_complete = 1`. -/
theorem test_tb_cycle :
    nextOf (exec .tb (ref 49 19 0 0 0 0)) = some { ref 0 0 0 0 0 0 with cycleComplete := true } := by decide

/-- S1. -/
theorem test_ind :
    [0, 1, 2, 3, 4, 5, 10, 19].map (fun e => (nextOf (exec .ind (ref 0 e 0 0 0 0))).map (·.lit))
      = [some false, some true, some false, some true, some false, some false, some false, some false] := by decide

/-- R75: from Idle on cycle complete. -/
theorem test_auto_triggers :
    (nextOf (exec .auto { ref 0 0 0 0 0 0 with cycleComplete := true })).map (·.drv) = some true := by decide

/-- R75 corner case (b). -/
theorem test_auto_waits : nextOf (exec .auto (ref 0 0 0 0 0 0)) = some (ref 0 0 0 0 0 0) := by decide

/-- V-D2's DEB: the window drains and nothing is dispatched. -/
theorem test_deb_drains : nextOf (exec .deb (ref 8 5 1 1 1 0)) = some (ref 8 5 1 0 1 0) := by decide

/-- V-D5's DEB: D_STOP is dispatched. -/
theorem test_deb_fires :
    nextOf (exec .deb (ref 8 5 1 0 1 0)) = some { ref 8 5 0 0 0 0 with fire := true } := by decide

/-- R86's worked example. -/
theorem test_dispatch_spin : nextOf (exec .dispatch (ref 0 0 3 0 0 0)) = some (ref 0 0 0 0 1 0) := by decide

/-- S3's ceiling row. -/
theorem test_dispatch_nop : nextOf (exec .dispatch (ref 7 5 255 0 1 0)) = some (ref 7 5 0 0 1 0) := by decide

/-- R88 to R91: each action alone; none of them clears PRESS. -/
theorem test_actions :
    nextOf (exec .dStop (ref 7 5 1 0 1 0)) = some (ref 7 5 1 0 0 0) ∧
    nextOf (exec .dReset (ref 7 5 2 0 1 1)) = some (ref 7 0 2 0 1 1) ∧
    nextOf (exec .dSpin (ref 7 5 3 0 0 0)) = some (ref 7 5 3 0 1 0) ∧
    nextOf (exec (.dNop 4) (ref 7 5 4 0 1 0)) = some (ref 7 5 4 0 1 0) := by decide

/-- V-R1. -/
theorem test_reset :
    nextOf (exec .reset (col (ref 33 7 2 18 1 0) 1 0 1 1)) = some (col (ref 0 0 0 0 0 0) 0 0 0 0) := by decide

/-- V-R2 and V-R5. -/
theorem test_start :
    nextOf (exec .start (col (ref 0 0 0 0 0 0) 0 0 0 0)) = some (ref 0 0 0 0 0 0) ∧
    nextOf (exec .start (ref 5 0 1 45 0 0)) = some (ref 5 0 1 45 0 0) := by decide

/-- V-R3's events, with B's beside them: latched while held. -/
theorem test_notify :
    nextOf (exec .notifyA (col (ref 0 0 0 0 0 0) 0 0 0 0)) = some (col (ref 0 0 0 0 0 0) 0 1 0 0) ∧
    nextOf (exec .notifyT (col (ref 0 0 0 0 0 0) 0 1 0 0)) = some (col (ref 0 0 0 0 0 0) 1 1 0 0) ∧
    nextOf (exec .notifyB (col (ref 0 0 0 0 0 0) 0 1 0 0)) = some (col (ref 0 0 0 0 0 0) 0 1 1 0) := by decide

/-- V-C1: serve(T). -/
theorem test_step_serves_tick :
    nextOf (step (go (col (ref 0 0 0 0 0 0) 1 0 0 1))) = some (ref 1 0 0 0 0 0) := by decide

/-- V-C9's first step: the reference arbiter serves B. -/
theorem test_step_reference_arbiter :
    nextOf (step (go (col (st refBAT 0 0 0 0 0 0) 1 1 1 1))) = some (col (st refBAT 0 0 0 0 0 0) 1 1 0 1) := by decide

/-- V-C10 and V-R3's last words: idle changes nothing, and neither does the hold. -/
theorem test_step_idle_and_held :
    nextOf (step (go (ref 0 0 0 0 0 0))) = some (ref 0 0 0 0 0 0) ∧
    nextOf (step (go (col (ref 0 0 0 0 0 0) 1 1 0 0))) = some (col (ref 0 0 0 0 0 0) 1 1 0 0) := by decide

/-- V-C2: two notifications, one latch. -/
theorem test_step_pin :
    nextOf (step { col (ref 0 0 0 0 0 0) 1 0 0 1 with agenda := [.pin .evT] })
      = some (col (ref 0 0 0 0 0 0) 1 0 0 1) := by decide

/-- V-R7: refused. -/
theorem test_step_refuses_ill_formed : step (st badGuard 0 0 0 0 0 0) = .refused .illFormedConfig := rfl

/-- R46, R47: the ports of `(0, 1, 0, 0, 1, 1)`. -/
theorem test_ports : indOut (ref 0 1 0 0 1 1) = 1#1 ∧ (actOut (ref 0 1 0 0 1 1)).toNat = Config.reference.m := by decide

/-- The host's placement: after it the next step runs the word's operation. -/
theorem test_placed_word_runs :
    decodeTableWord 8 1 = some .tick ∧ decodeTableWord 8 200 = some (.dNop 200) ∧
    nextOf (step (State.reset.withFetchWord 8 0)) = some (ref 0 0 0 0 0 0) ∧
    nextOf (step (State.reset.withFetchWord 8 1)) = some (ref 1 0 0 0 0 0) ∧
    nextOf (step (State.reset.withFetchWord 8 2)) = some (ref 0 0 1 50 0 0) ∧
    nextOf (step (State.reset.withFetchWord 8 3)) = some (ref 0 0 0 0 0 0) ∧
    nextOf (step (State.reset.withFetchWord 8 200)) = some (ref 1 0 0 0 0 0) := by decide

/-! ## Witnesses: for each statement with hypotheses, concrete terms that meet them all, one conjunct for each clause at the boundary of
its range -/

theorem wit_IdleChangesNothing : (ref 49 19 255 50 1 1).cfg.wf = true := by decide

theorem wit_TickRegisterValues :
    (ref 49 18 2 0 1 0).cfg.wf = true ∧
    (19 = if (ref 49 18 2 0 1 0).tickcnt + 1 = (ref 49 18 2 0 1 0).cfg.tps then
        (if (ref 49 18 2 0 1 0).elapsed + 1 = (ref 49 18 2 0 1 0).cfg.period then 0 else (ref 49 18 2 0 1 0).elapsed + 1)
      else (ref 49 18 2 0 1 0).elapsed) := by decide

theorem wit_TickIsItsFourPhasesInOrder : (ref 49 19 1 0 0 0).cfg.wf = true ∧ (ref 49 19 1 0 0 0).AtRest := by decide

/-- COOL = THRESH - 1 and COOL = THRESH. -/
theorem wit_EdgeAAcceptsBelowThreshold :
    (ref 7 5 1 39 0 0).cfg.wf = true ∧ (ref 7 5 1 39 0 0).AtRest ∧
    (ref 7 5 1 39 0 0).cool < (ref 7 5 1 39 0 0).cfg.top - (ref 7 5 1 39 0 0).cfg.guard ∧
    (ref 7 5 1 40 0 0).AtRest ∧
    (ref 7 5 1 40 0 0).cfg.top - (ref 7 5 1 40 0 0).cfg.guard ≤ (ref 7 5 1 40 0 0).cool := by decide

theorem wit_EdgeBForcesIdle : (ref 12 0 3 27 1 0).cfg.wf = true ∧ (ref 12 0 3 27 1 0).AtRest := by decide

theorem wit_OperationsLeaveNoSignal :
    Letter.t ≠ .i ∧ { ref 49 19 0 0 0 0 with fire := true }.cfg.wf = true ∧
    { ref 49 19 0 0 0 0 with fire := true }.seq = none := by decide

/-- The largest counters in range, where both wrap. -/
theorem wit_TbIsModularCounterPair :
    (ref 49 19 0 0 0 0).cfg.wf = true ∧ (ref 49 19 0 0 0 0).tickcnt < (ref 49 19 0 0 0 0).cfg.tps ∧
    (ref 49 19 0 0 0 0).elapsed < (ref 49 19 0 0 0 0).cfg.period := by decide

theorem wit_IndDrivesBlink : (ref 0 3 0 0 0 0).cfg.wf = true := by decide

theorem wit_AutoTriggersOnlyFromIdle :
    { ref 0 0 0 0 0 0 with cycleComplete := true }.cfg.wf = true ∧
    { ref 0 0 0 0 0 0 with cycleComplete := true }.drv = false ∧
    { ref 0 0 0 0 1 0 with cycleComplete := true }.drv = true ∧ (ref 0 0 0 0 1 0).cycleComplete = false := by decide

/-- COOL = 1; COOL = 0 with PRESS = 1; COOL = 0 with PRESS = 0. -/
theorem wit_DebCountsDownOrDispatches :
    (ref 7 5 1 1 0 0).cfg.wf = true ∧ 0 < (ref 7 5 1 1 0 0).cool ∧
    (ref 7 5 1 0 0 0).cool = 0 ∧ 0 < (ref 7 5 1 0 0 0).press ∧ (ref 7 5 0 0 0 0).press = 0 := by decide

theorem wit_DispatchRunsSelectedActionAndClears :
    (ref 7 5 1 0 1 0).cfg.wf = true ∧ (ref 7 5 1 0 1 0).press = 1 ∧ (ref 7 5 2 0 1 0).press = 2 ∧
    (ref 7 5 3 0 0 0).press = 3 ∧ (ref 7 5 4 0 1 0).press ≠ 1 ∧ (ref 7 5 4 0 1 0).press ≠ 2 ∧
    (ref 7 5 4 0 1 0).press ≠ 3 := by decide

theorem wit_DStopIdlesActuator :
    3 ≤ 3 ∧ (ref 49 19 1 0 0 0).cfg.wf = true ∧ (ref 49 19 1 0 0 0).cool = 0 ∧ (ref 49 19 1 0 0 0).press = 1 := by decide

theorem wit_DResetClearsElapsedOnly : 3 ≤ 8 ∧ (ref 45 1 2 0 0 1).cfg.wf = true := by decide

theorem wit_DSpinDrivesActuator :
    3 ≤ 8 ∧ (ref 10 5 3 0 0 0).cfg.wf = true ∧ (ref 10 5 3 0 1 0).drv = true := by decide

/-- The selectors 0, 4 and 255. -/
theorem wit_DNopOnlyLetsPressClear :
    (ref 10 5 4 0 1 0).cfg.wf = true ∧
    ∀ sel ∈ [0, 4, 255], sel ≠ 1 ∧ sel ≠ 2 ∧ sel ≠ 3 ∧ sel < 2 ^ (ref 10 5 4 0 1 0).cfg.pressW := by decide

theorem wit_ResetClearsEveryRegister : (col (ref 33 7 2 18 1 0) 1 0 1 1).cfg.wf = true := by decide

theorem wit_ResetKeepsTheOutsideWorld :
    { col (ref 33 7 2 18 1 0) 1 0 1 1 with agenda := [.pin .start] }.cfg.wf = true := by decide

theorem wit_StartOpensTheGate :
    (col (ref 0 0 0 0 0 0) 0 0 0 0).cfg.wf = true ∧ (ref 5 0 1 45 0 0).ie = true := by decide

theorem wit_NotifySetsItsLatchOnly :
    (col (ref 0 0 0 0 0 0) 1 1 1 0).cfg.wf = true ∧ (col (ref 0 0 0 0 0 0) 1 1 1 0).pendT = true ∧
    (col (ref 0 0 0 0 0 0) 1 1 1 0).pendA = true ∧ (col (ref 0 0 0 0 0 0) 1 1 1 0).pendB = true := by decide

/-- A grant, and no grant. -/
theorem wit_StepRunsTheDecodedOperation :
    (go (col (ref 0 0 0 0 0 0) 0 1 0 1)).cfg.wf = true ∧ (go (col (ref 0 0 0 0 0 0) 0 1 0 1)).dispatcherMoves = true ∧
    (go (col (ref 0 0 0 0 0 0) 0 1 0 1)).ie = true ∧ grant (go (col (ref 0 0 0 0 0 0) 0 1 0 1)) = some .a ∧
    (go (ref 0 0 0 0 0 0)).dispatcherMoves = true ∧ grant (go (ref 0 0 0 0 0 0)) = none := by decide

/-- Each of the five pins. -/
theorem wit_PinTurnRunsItsOperation :
    ∀ p ∈ [Pin.evT, .evA, .evB, .rst, .start],
      { ref 0 0 0 0 0 0 with agenda := [.pin p, .dispatcher] }.cfg.wf = true ∧
      nextTurn { ref 0 0 0 0 0 0 with agenda := [.pin p, .dispatcher] } = .pin p := by decide

theorem wit_HeldWhileGateClosed :
    (go (col (ref 0 0 0 0 0 0) 1 1 0 0)).cfg.wf = true ∧ (go (col (ref 0 0 0 0 0 0) 1 1 0 0)).dispatcherMoves = true ∧
    (go (col (ref 0 0 0 0 0 0) 1 1 0 0)).ie = false := by decide

/-- B served with nothing above it, A and T served only with B quiet, and idling. -/
theorem wit_ServedOnlyWhenEnabled :
    (go (col (st refBAT 0 0 0 0 0 0) 1 1 1 1)).cfg.wf = true ∧
    nextEvent (go (col (st refBAT 0 0 0 0 0 0) 1 1 1 1)) = .serve .b ∧
    (go (col (st refBAT 0 0 0 0 0 0) 1 1 1 1)).cfg.arb = .order .b .a .t ∧
    nextEvent (go (col (st refBAT 0 0 0 0 0 0) 1 1 0 1)) = .serve .a ∧
    nextEvent (go (col (st refBAT 0 0 0 0 0 0) 1 0 0 1)) = .serve .t ∧
    nextEvent (go (col (st refBAT 0 0 0 0 0 0) 0 0 0 1)) = .idle := by decide

theorem wit_FixedPriorityGrantsHighest :
    (col (st refBAT 0 0 0 0 0 0) 1 1 0 1).cfg.wf = true ∧
    (col (st refBAT 0 0 0 0 0 0) 1 1 0 1).cfg.arb = .order .b .a .t := by decide

theorem wit_FreeArbiterMayGrantAnyPending :
    (col (ref 0 0 0 0 0 0) 1 1 0 1).cfg.arb = .free ∧ (col (ref 0 0 0 0 0 0) 1 1 0 1).pendT = true ∧
    pend (col (ref 0 0 0 0 0 0) 1 1 0 1) .a = true := by decide

theorem wit_StopServedFirstUnderReferenceArbiter :
    (go (col (st refBAT 0 0 0 0 1 0) 1 1 1 1)).cfg.wf = true ∧
    (go (col (st refBAT 0 0 0 0 1 0) 1 1 1 1)).cfg.arb = .order .b .a .t ∧ (go (col (st refBAT 0 0 0 0 1 0) 1 1 1 1)).ie = true ∧
    (go (col (st refBAT 0 0 0 0 1 0) 1 1 1 1)).pendB = true ∧
    (go (col (st refBAT 0 0 0 0 1 0) 1 1 1 1)).dispatcherMoves = true := by decide

theorem wit_EveryTraceIsARun : Config.small.wf = true := by decide

/-- A run: T is pending, is served, and the dispatcher idles for ever. -/
def tickRun : Run where
  state := fun n => match n with
    | 0 => col (ref 0 0 0 0 0 0) 1 0 0 1
    | _ + 1 => ref 1 0 0 0 0 0
  event := fun n => match n with
    | 0 => .serve .t
    | _ + 1 => .idle

theorem tickRun_valid : tickRun.Valid := by
  refine ⟨by decide, fun n => ?_⟩
  cases n with
  | zero => exact ⟨by decide, nextOf_eq_some.mp (by decide)⟩
  | succ n =>
    have idles : runEvent .idle (ref 1 0 0 0 0 0) = .next (ref 1 0 0 0 0 0) := nextOf_eq_some.mp (by decide)
    exact ⟨rfl, idles⟩

theorem tickRun_fair : tickRun.Fair := by
  intro n x _ hp
  cases n with
  | zero =>
    cases x with
    | t => exact ⟨0, Nat.le_refl 0, .inl rfl⟩
    | a => cases hp
    | b => cases hp
  | succ n => cases x <;> cases hp

/-- A run that is valid and not fair: T is pending for ever and B notifies again and again. -/
def starvingRun : Run where
  state := fun _ => col (ref 0 0 0 0 0 0) 1 0 1 1
  event := fun _ => .pin .evB

/-- R115: "A run in which a latch is set and never served is not a run of this hardware". -/
theorem test_starving_run_is_not_fair : starvingRun.Valid ∧ ¬ starvingRun.Fair := by
  have notifies : runEvent (.pin .evB) (col (ref 0 0 0 0 0 0) 1 0 1 1) = .next (col (ref 0 0 0 0 0 0) 1 0 1 1) :=
    nextOf_eq_some.mp (by decide)
  refine ⟨⟨by decide, fun _ => ⟨rfl, notifies⟩⟩, fun h => ?_⟩
  obtain ⟨m, -, he | he⟩ := h 0 .t rfl rfl
  · cases he
  · cases he

/-- B is served and A's latch is held; and a valid and fair run with a latch set. -/
theorem wit_LatchHeldUntilServed :
    step (go (col (st refBAT 0 0 0 0 1 0) 0 1 1 1)) = .next (col (st refBAT 0 0 0 0 0 0) 0 1 0 1) ∧
    pend (go (col (st refBAT 0 0 0 0 1 0) 0 1 1 1)) .a = true ∧
    nextEvent (go (col (st refBAT 0 0 0 0 1 0) 0 1 1 1)) ≠ .serve .a ∧
    nextEvent (go (col (st refBAT 0 0 0 0 1 0) 0 1 1 1)) ≠ .pin .rst ∧
    tickRun.Valid ∧ tickRun.Fair ∧ (tickRun.state 0).ie = true ∧ pend (tickRun.state 0) .t = true ∧
    ∀ m, 0 ≤ m → tickRun.event m ≠ .pin .rst :=
  ⟨nextOf_eq_some.mp (by decide), by decide, by decide, by decide, tickRun_valid, tickRun_fair, rfl, rfl,
    fun m _ => by cases m <;> exact Event.noConfusion⟩

theorem wit_GateStaysOpenUntilReset :
    step (go (col (ref 0 0 0 0 0 0) 1 0 0 1)) = .next (ref 1 0 0 0 0 0) ∧ (go (col (ref 0 0 0 0 0 0) 1 0 0 1)).ie = true ∧
    nextEvent (go (col (ref 0 0 0 0 0 0) 1 0 0 1)) ≠ .pin .rst :=
  ⟨nextOf_eq_some.mp (by decide), by decide⟩

theorem wit_OperationsIgnoreLatches : exec Letter.t.instr (ref 49 19 0 0 0 0) = .next (ref 0 0 0 0 1 0) :=
  nextOf_eq_some.mp (by decide)

theorem wit_InvariantHoldsAtReset : refBAT.wf = true := by decide

/-- The window drains in second 3; the state meets every item of R24. -/
theorem wit_StepKeepsInvariant :
    (go (col (ref 49 2 1 1 0 0) 1 0 0 1)).Inv ∧ step (go (col (ref 49 2 1 1 0 0) 1 0 0 1)) = .next (ref 0 3 1 0 0 1) :=
  ⟨⟨by decide, by decide, by decide, by decide, by decide⟩, nextOf_eq_some.mp (by decide)⟩

theorem wit_EveryOperationCompletes : (ref 99 99 999 99 1 1).cfg.wf = true ∧ starvingRun.Valid :=
  ⟨by decide, test_starving_run_is_not_fair.1⟩

theorem wit_IllFormedConfigRefused : (st badGuard 0 0 0 0 0 0).cfg.wf = false := by decide

/-- Both sides of the equivalence: a configuration that meets the constraints, and one that breaks each clause about ARB. -/
theorem wit_ConfigConstraints : refBAT.wf = true ∧ { refBAT with arb := .order .b .b .t }.wf = false := by decide

/-- RESET in a configuration that is not the reset one. -/
theorem wit_ConfigurationNeverChanges :
    exec .reset (st Config.small 1 2 3 4 1 0) = .next (col (st Config.small 0 0 0 0 0 0) 0 0 0 0) ∧
    step { st Config.small 1 2 3 4 1 0 with agenda := [.pin .rst] } = .next (col (st Config.small 0 0 0 0 0 0) 0 0 0 0) :=
  ⟨nextOf_eq_some.mp (by decide), nextOf_eq_some.mp (by decide)⟩

/-- EDGE_A at the ceiling. -/
theorem wit_TimeAdvancesOnlyByTick :
    (go (col (ref 7 5 255 39 0 0) 0 1 0 1)).press ≤ (go (col (ref 7 5 255 39 0 0) 0 1 0 1)).cfg.pressMax ∧
    step (go (col (ref 7 5 255 39 0 0) 0 1 0 1)) = .next (ref 7 5 255 50 0 0) ∧
    nextEvent (go (col (ref 7 5 255 39 0 0) 0 1 0 1)) ≠ .serve .t ∧
    nextEvent (go (col (ref 7 5 255 39 0 0) 0 1 0 1)) ≠ .pin .rst :=
  ⟨by decide, nextOf_eq_some.mp (by decide), by decide⟩

theorem wit_PressCountsOnlyByEdgeA :
    step (go (col (ref 7 5 2 0 1 0) 1 0 0 1)) = .next (ref 8 0 0 0 1 0) ∧
    nextEvent (go (col (ref 7 5 2 0 1 0) 1 0 0 1)) ≠ .serve .a :=
  ⟨nextOf_eq_some.mp (by decide), by decide⟩

/-- A TICK without cycle complete and without dispatch. -/
theorem wit_ActuatorTransitionTable :
    (ref 49 18 1 1 1 0).cfg.wf = true ∧
    ¬ ((ref 49 18 1 1 1 0).tickcnt + 1 = (ref 49 18 1 1 1 0).cfg.tps ∧
        (ref 49 18 1 1 1 0).elapsed + 1 = (ref 49 18 1 1 1 0).cfg.period) ∧
    ¬ ((ref 49 18 1 1 1 0).cool = 0 ∧ 0 < (ref 49 18 1 1 1 0).press) := by decide

theorem wit_DispatchHasTheLastWord :
    (ref 49 19 1 0 0 0).cfg.wf = true ∧ (ref 49 19 1 0 0 0).tickcnt + 1 = (ref 49 19 1 0 0 0).cfg.tps ∧
    (ref 49 19 1 0 0 0).elapsed + 1 = (ref 49 19 1 0 0 0).cfg.period ∧ (ref 49 19 1 0 0 0).cool = 0 ∧
    0 < (ref 49 19 1 0 0 0).press := by decide

theorem wit_DrivingEndsOnlyByAStop :
    step (go (col (ref 10 5 1 0 1 0) 1 0 0 1)) = .next (ref 11 5 0 0 0 0) ∧
    (go (col (ref 10 5 1 0 1 0) 1 0 0 1)).drv = true ∧ (ref 11 5 0 0 0 0).drv = false :=
  ⟨nextOf_eq_some.mp (by decide), by decide⟩

/-- V-B4's state, and a cycle about to complete. -/
theorem wit_StopEdgeCancelsNothing :
    exec .edgeB (st Config.small 0 1 3 0 1 1) = .next (st Config.small 0 1 3 0 0 1) ∧
    ((st Config.small 0 1 3 0 1 1).cool = 0 ∧ (st Config.small 0 1 3 0 1 1).press = 3) ∧
    exec .edgeB (ref 49 19 0 0 1 0) = .next (ref 49 19 0 0 0 0) ∧
    ((ref 49 19 0 0 1 0).tickcnt + 1 = (ref 49 19 0 0 1 0).cfg.tps ∧
      (ref 49 19 0 0 1 0).elapsed + 1 = (ref 49 19 0 0 1 0).cfg.period ∧
      ¬ ((ref 49 19 0 0 1 0).cool = 0 ∧ (ref 49 19 0 0 1 0).press = 1)) :=
  ⟨nextOf_eq_some.mp (by decide), by decide, nextOf_eq_some.mp (by decide), by decide⟩

/-- Accepted, and rejected. -/
theorem wit_EdgesAreIdempotent :
    exec .edgeA (ref 7 5 1 39 0 0) = .next (ref 7 5 2 50 0 0) ∧ exec .edgeA (ref 7 5 1 40 0 0) = .next (ref 7 5 1 40 0 0) ∧
    exec .edgeB (ref 12 0 3 27 1 0) = .next (ref 12 0 3 27 0 0) :=
  ⟨nextOf_eq_some.mp (by decide), nextOf_eq_some.mp (by decide), nextOf_eq_some.mp (by decide)⟩

theorem wit_EdgesCommute : (ref 7 5 0 0 1 0).cfg.wf = true := by decide

theorem wit_IndicatorFollowsBlink :
    exec .tick (ref 49 0 1 0 0 0) = .next (ref 0 1 0 0 0 1) ∧ ¬ (ref 49 0 1 0 0 0).ResetDue :=
  ⟨nextOf_eq_some.mp (by decide), by decide⟩

/-- V-IND5. -/
theorem wit_IndicatorLagsResetByOneTick : (ref 49 0 2 0 0 0).cfg.wf = true ∧ (ref 49 0 2 0 0 0).ResetDue := by decide

/-- Two TICKs, no D_RESET among them. -/
theorem wit_TicksClosedForm :
    (ref 49 19 0 0 0 0).cfg.wf = true ∧ (ref 49 19 0 0 0 0).tickcnt < (ref 49 19 0 0 0 0).cfg.tps ∧
    (ref 49 19 0 0 0 0).elapsed < (ref 49 19 0 0 0 0).cfg.period ∧
    ∀ k u, k < 2 → runTrace (ticks k) (ref 49 19 0 0 0 0) = .next u → ¬ u.ResetDue := by
  refine ⟨by decide, by decide, by decide, fun k u hk h => ?_⟩
  obtain rfl | rfl : k = 0 ∨ k = 1 := by omega
  · cases h; decide
  · rw [← nextOf_eq_some] at h
    rw [show nextOf (runTrace (ticks 1) (ref 49 19 0 0 0 0)) = some (ref 0 0 0 0 1 0) from by decide] at h
    cases h; decide

/-- Each action due, and the last tick of the window. -/
theorem wit_WindowDrainsThenDispatches :
    (ref 7 5 1 2 0 0).cfg.wf = true ∧ 0 < (ref 7 5 1 2 0 0).press ∧ 2 ≤ (ref 7 5 1 2 0 0).cool ∧
    (ref 7 5 1 2 0 0).press = 1 ∧ (ref 7 5 2 2 0 0).press = 2 ∧ (ref 7 5 3 2 0 0).press = 3 := by decide

/-- The gaps 10, 11, 50 and 51 of V-A9 to V-A11 and S6. -/
theorem wit_AcceptanceByGap :
    (ref 7 5 1 39 0 0).cool < (ref 7 5 1 39 0 0).cfg.top - (ref 7 5 1 39 0 0).cfg.guard ∧
    exec .edgeA (ref 7 5 1 39 0 0) = .next (ref 7 5 2 50 0 0) ∧
    10 ≤ (ref 7 5 1 39 0 0).cfg.guard ∧ (ref 7 5 1 39 0 0).cfg.guard < 11 ∧
    50 ≤ (ref 7 5 1 39 0 0).cfg.top ∧ (ref 7 5 1 39 0 0).cfg.top < 51 :=
  ⟨by decide, nextOf_eq_some.mp (by decide), by decide⟩

theorem wit_DispatchOncePerWindow :
    (ref 7 5 0 0 1 0).cfg.wf = true ∧ Letter.a ∉ [Letter.t, .i, .t] ∧ (ref 7 5 0 0 1 0).cool = 0 ∧
    (ref 7 5 0 0 1 0).press = 0 ∧ (ref 7 5 0 0 1 0).drv = true ∧ Letter.b ∉ [Letter.t, .i, .t] := by decide

theorem wit_PressesAreCounted : Config.reference.wf = true ∧ 1 ≤ 255 ∧ 255 ≤ Config.reference.pressMax := by decide

/-- A PRESS of 3 bits at its ceiling beside one of 8 bits that holds 9. -/
theorem wit_SaturationIsInvisible :
    { ref 7 5 7 12 0 0 with cfg := { Config.reference with pressW := 3 } }.cfg.wf = true ∧
    (ref 7 5 9 12 0 0).cfg.wf = true ∧
    { ref 7 5 7 12 0 0 with cfg := { Config.reference with pressW := 3 } }.SaturatedTwin (ref 7 5 9 12 0 0) := by decide

theorem wit_PortsShowRegisters :
    (ref 0 0 0 0 1 0).cfg.wf = true ∧ (ref 0 0 0 0 1 0).drv = true ∧ (ref 0 0 0 0 0 0).drv = false := by decide

/-- Every counter at the top of its range. -/
theorem wit_CountersFitTheirWidths : 50 ≤ 2 ^ 6 ∧ (ref 49 19 255 50 0 0).Inv :=
  ⟨by decide, ⟨by decide, by decide, by decide, by decide, by decide⟩⟩

/-- The selectors at the ends of D_NOP's ranges. -/
theorem wit_DecodeOfEncode :
    3 ≤ 8 ∧ (Instr.dNop 0).wf 8 = true ∧ (Instr.dNop 4).wf 8 = true ∧ (Instr.dNop 255).wf 8 = true ∧
    encode (.dNop 255) = some { format := .ds, bits := 255 } := by decide

theorem wit_EncodeOfDecode :
    CodeWord.fits 8 { format := .ds, bits := 255 } = true ∧ CodeWord.fits 8 { format := .ds, bits := 256 } = false ∧
    CodeWord.fits 8 { format := .op, bits := 3 } = true ∧ CodeWord.fits 8 { format := .op, bits := 4 } = false := by decide

theorem wit_TableRowsAreTheDecoder : CodeWord.fits 8 { format := .ds, bits := 128 } = true := by decide

/-- The first and the last place. -/
theorem wit_TraceCodeRoundTrip : 0 < [Letter.a, .t, .t, .b].length ∧ 3 < [Letter.a, .t, .t, .b].length ∧ 0x555D < 4 ^ 8 := by
  decide

end Sys2Proof.Tests
end

section
/-! PROOFS. The family of 00_scope.md: the configuration's constraints (R5), the refusal of an ill-formed one (R6), and the widths
that R5 derives for the counters of R11 to R14. -/

namespace Sys2Proof

/-- R5's "least `k` with `2^k >= n`" as one equivalence: bounds on `clog2 n` are bounds on `n`. -/
theorem clog2_le_iff {n k : Nat} : clog2 n ≤ k ↔ n ≤ 2 ^ k := by
  unfold clog2
  split
  · have hpow : 1 ≤ 2 ^ k := Nat.one_le_two_pow
    omega
  · rw [Nat.add_one_le_iff, Nat.log2_lt (by omega)]
    omega

theorem le_two_pow_clog2 (n : Nat) : n ≤ 2 ^ clog2 n := clog2_le_iff.mp le_rfl

/-- A counter below its period fits the width R5 gives it, the floor of one bit included. -/
theorem lt_two_pow_of_lt_of_clog2_le {v n w : Nat} (hv : v < n) (hw : clog2 n ≤ w) : v < 2 ^ w :=
  hv.trans_le (clog2_le_iff.mp hw)

theorem Config.lt_two_pow_pressW_of_le_pressMax {c : Config} {v : Nat} (hv : v ≤ c.pressMax) : v < 2 ^ c.pressW :=
  Nat.lt_of_le_sub_one (Nat.two_pow_pos c.pressW) hv

theorem Arb.wf_iff (a : Arb) : a.wf = true ↔ ∀ p q r, a = .order p q r → p ≠ q ∧ p ≠ r ∧ q ≠ r := by
  cases a with
  | free => simp [Arb.wf]
  | order p q r => simp [Arb.wf, and_assoc]

theorem Config.wf_iff (c : Config) : c.wf = true ↔
    1 ≤ c.tps ∧ 1 ≤ c.period ∧ 1 ≤ c.top ∧ c.guard < c.top ∧ 1 ≤ c.m ∧ c.m ≤ 2 ^ c.magW - 1 ∧ 1 ≤ c.magW ∧
      3 ≤ c.pressW ∧ c.arb.wf = true := by
  simp only [Config.wf, Bool.and_eq_true, decide_eq_true_eq, and_assoc]

end Sys2Proof

namespace Sys2Proof.Machine

theorem step_of_not_wf {s : State} (h : s.cfg.wf = false) : step s = .refused .illFormedConfig :=
  if_neg (ne_true_of_eq_false h)

/-- Settles O35: `exec` and `step` both test the configuration before anything else. -/
theorem illFormedConfigRefused : Obligations.IllFormedConfigRefused :=
  fun _ h => ⟨fun i => exec_of_not_wf i h, step_of_not_wf h⟩

/-- Settles O55: the ranges of the invariant (R11 to R14) against the widths of R5; TICK_W and ELAPSED_W are at least `clog2` of
their period, COOL_W is `clog2 (TOP + 1)` because COOL may equal TOP. -/
theorem countersFitTheirWidths : Obligations.CountersFitTheirWidths := by
  refine ⟨fun n => ⟨le_two_pow_clog2 n, fun _ => clog2_le_iff.mpr⟩, fun s hinv => ?_⟩
  obtain ⟨htick, helapsed, hcool, hpress⟩ := hinv.inRange
  exact ⟨lt_two_pow_of_lt_of_clog2_le htick (le_max_right _ _), lt_two_pow_of_lt_of_clog2_le helapsed (le_max_right _ _),
    lt_two_pow_of_lt_of_clog2_le (Nat.lt_succ_of_le hcool) le_rfl, Config.lt_two_pow_pressW_of_le_pressMax hpress⟩

/-- Settles O36: the constraints of the record, with the total order that a well-formed ARB is. -/
theorem configConstraints : Obligations.ConfigConstraints := by
  intro c
  rw [Config.wf_iff, Arb.wf_iff]

end Sys2Proof.Machine
end

section
/-! PROOFS. The family of 10_state.md: the invariants of R24 at reset and along every step, and what the collator (R20, R21) and the
window's registers (R13, R14) keep. -/

namespace Sys2Proof.Machine

/-! The values of Machine/Operands.lean stay in the ranges of R11 to R14. -/

/-- The ceiling of PRESS is no zero: R5 asks for at least three bits. -/
theorem pressMax_pos {c : Config} (h : c.wf = true) : 0 < c.pressMax := by
  obtain ⟨-, -, -, -, -, -, -, hpressW, -⟩ := (Config.wf_iff c).mp h
  exact Nat.sub_pos_of_lt (Nat.one_lt_two_pow (by omega))

theorem satInc_le_pressMax (c : Config) (v : Nat) : satInc c v ≤ c.pressMax := by
  unfold satInc
  split <;> omega

theorem satInc_pos {c : Config} (h : c.wf = true) (v : Nat) : 0 < satInc c v := by
  have hmax : 0 < c.pressMax := pressMax_pos h
  unfold satInc
  split <;> omega

theorem nextSecond_lt_period {c : Config} {e : Nat} (h : e < c.period) : nextSecond c e < c.period := by
  unfold nextSecond
  split <;> omega

theorem elapsedAfterTb_lt_period {s : State} (h : s.elapsed < s.cfg.period) : elapsedAfterTb s < s.cfg.period := by
  unfold elapsedAfterTb
  split
  · exact nextSecond_lt_period h
  · exact h

/-- Phase TB's TICKCNT stays below TPS: it is cleared exactly where it would reach it. -/
theorem tickcntAfterTb_lt_tps {s : State} (h : s.tickcnt < s.cfg.tps) :
    (if secondWraps s then 0 else s.tickcnt + 1) < s.cfg.tps := by
  split
  · omega
  · next hwrap =>
    have hne : s.tickcnt + 1 ≠ s.cfg.tps := by simpa [secondWraps] using hwrap
    omega

/-! The invariants do not speak of the collator, nor of the model's own turns and choices. -/

section Frame

variable {s : State} (h : s.Inv)
include h

theorem inv_setPend (x : Source) (b : Bool) : (setPend x b s).Inv :=
  ⟨h.wf, h.inRange, h.counted, h.atRest, h.litLag⟩

theorem inv_setIe (b : Bool) : (setIe b s).Inv := ⟨h.wf, h.inRange, h.counted, h.atRest, h.litLag⟩

theorem inv_withFreeIdx (n : Nat) : { s with freeIdx := n }.Inv :=
  ⟨h.wf, h.inRange, h.counted, h.atRest, h.litLag⟩

theorem inv_useTurn : (useTurn s).Inv := by
  cases hl : s.agenda with
  | nil => rw [useTurn_nil hl]; exact ⟨h.wf, h.inRange, h.counted, h.atRest, h.litLag⟩
  | cons turn rest => rw [useTurn_cons hl]; exact ⟨h.wf, h.inRange, h.counted, h.atRest, h.litLag⟩

end Frame

/-! Each operation that a step runs keeps the invariants. -/

theorem inv_resetWith {c : Config} (h : c.wf = true) : (State.resetWith c).Inv := by
  obtain ⟨htps, hperiod, -⟩ := (Config.wf_iff c).mp h
  exact ⟨h, ⟨htps, hperiod, Nat.zero_le _, Nat.zero_le _⟩, id, ⟨rfl, rfl, rfl, rfl⟩, .inr rfl⟩

/-- RESET makes the reset state but for the turns and choices to come (log 12). -/
theorem inv_toReset {s : State} (h : s.cfg.wf = true) : (toReset s).Inv :=
  have hreset := inv_resetWith h
  ⟨h, hreset.inRange, hreset.counted, hreset.atRest, hreset.litLag⟩

/-- TICK: a window still open after the countdown had not drained, so its count stands; and LIT shows the ELAPSED of phase TB, which
only a D_RESET, by clearing it, makes differ from the ELAPSED after the TICK. -/
theorem inv_tick {s : State} (h : s.Inv) : (effect .tick s).Inv := by
  obtain ⟨htick, helapsed, hcool, hpress⟩ := h.inRange
  have hcounted := h.counted
  have helapsed' := elapsedAfterTb_lt_period helapsed
  rw [tick_effect]
  refine ⟨h.wf, ⟨tickcntAfterTb_lt_tps htick, ?_, ?_, ?_⟩, ?_, ⟨rfl, rfl, rfl, rfl⟩, ?_⟩
  · dsimp only
    split <;> omega
  · exact (Nat.sub_le _ _).trans hcool
  · dsimp only
    split <;> omega
  · dsimp only
    split <;> omega
  · dsimp only
    split
    · exact .inr rfl
    · exact .inl rfl

/-- EDGE_A: an accepted edge opens the window with a count that is no zero; a rejected one writes nothing. -/
theorem inv_edgeA {s : State} (h : s.Inv) : (effect .edgeA s).Inv := by
  obtain ⟨htick, helapsed, hcool, hpress⟩ := h.inRange
  obtain ⟨hseq, -⟩ := h.atRest
  rw [edgeA_effect]
  cases acceptOf s with
  | true =>
    exact ⟨h.wf, ⟨htick, helapsed, le_rfl, satInc_le_pressMax _ _⟩, fun _ => satInc_pos h.wf _,
      ⟨hseq, rfl, rfl, rfl⟩, h.litLag⟩
  | false => exact ⟨h.wf, h.inRange, h.counted, ⟨hseq, rfl, rfl, rfl⟩, h.litLag⟩

theorem inv_edgeB {s : State} (h : s.Inv) : (effect .edgeB s).Inv := by
  obtain ⟨hseq, -⟩ := h.atRest
  exact ⟨h.wf, h.inRange, h.counted, ⟨hseq, rfl, rfl, rfl⟩, h.litLag⟩

/-- The operation of a served source (R108). -/
theorem inv_served {s : State} (h : s.Inv) (x : Source) : (effect (decodeOp (opCode (some x))) s).Inv := by
  rw [decodeOp_opCode]
  cases x with
  | t => exact inv_tick h
  | a => exact inv_edgeA h
  | b => exact inv_edgeB h

/-- An occurrence on a pin (R31). -/
theorem inv_pin {s : State} (h : s.Inv) (p : Pin) : (effect p.instr s).Inv := by
  cases p with
  | evT => exact inv_setPend h .t true
  | evA => exact inv_setPend h .a true
  | evB => exact inv_setPend h .b true
  | rst => exact inv_toReset h.wf
  | start => exact inv_setIe h true

/-- Settles O33: each event of R105 is a composition of operations that keep the invariants. -/
theorem stepKeepsInvariant : Obligations.StepKeepsInvariant := by
  intro s t hinv hstep
  have hturn := inv_useTurn hinv
  obtain ⟨-, ⟨p, -, -, rfl⟩ | ⟨x, n, -, -, -, -, rfl⟩ | ⟨-, -, -, rfl⟩ | ⟨-, -, rfl⟩⟩ := step_cases hstep
  · exact inv_pin hturn p
  · have hentry := inv_setIe (inv_setPend (inv_withFreeIdx hturn n) x false) false
    exact inv_setIe (inv_served hentry x) true
  · exact hturn
  · exact hturn

/-- Settles O31: the reset state by its values and the constraints of R5; the launch state differs from it in IE alone. -/
theorem invariantHoldsAtReset : Obligations.InvariantHoldsAtReset :=
  fun _ hwf => ⟨inv_resetWith hwf, inv_setIe (inv_resetWith hwf) true⟩

/-! The collator: IE (R21), the latches (R20), and the signals at the end of an operation (R18). -/

/-- Of the pins, RESET alone can close the gate. -/
theorem effect_pin_ie {p : Pin} {s : State} (hp : p ≠ .rst) (hie : s.ie = true) : (effect p.instr s).ie = true := by
  cases p with
  | rst => exact absurd rfl hp
  | start => rfl
  | evT => exact hie
  | evA => exact hie
  | evB => exact hie

/-- Settles O29: serving ends with the return of R112, which sets IE; of the other steps RESET alone clears it. -/
theorem gateStaysOpenUntilReset : Obligations.GateStaysOpenUntilReset := by
  intro s t hstep hie hreset
  have hturn : (useTurn s).ie = true := by rw [useTurn_ie, hie]
  obtain ⟨-, ⟨p, he, -, rfl⟩ | ⟨x, n, -, -, -, -, rfl⟩ | ⟨-, -, -, rfl⟩ | ⟨-, -, rfl⟩⟩ := step_cases hstep
  · exact effect_pin_ie (fun hp => hreset (hp ▸ he)) hturn
  · rfl
  · exact hturn
  · exact hturn

/-- The operation of a trace letter and a write to a latch may change places. -/
theorem effect_letter_setPend (l : Letter) (x : Source) (b : Bool) (s : State) :
    effect l.instr (setPend x b s) = setPend x b (effect l.instr s) := by
  cases l with
  | i => rfl
  | t => simp only [Letter.instr, tick_effect]; rfl
  | a => simp only [Letter.instr, edgeA_effect]; rfl
  | b => rfl

/-- Settles O30: the effect of each operation commutes with a write to a latch, which leaves the configuration alone. -/
theorem operationsIgnoreLatches : Obligations.OperationsIgnoreLatches := by
  intro l x b s t hexec
  obtain ⟨hwf, rfl⟩ := exec_eq_next.mp hexec
  exact exec_eq_next.mpr ⟨hwf, (effect_letter_setPend l x b s).symm⟩

/-- Settles O6: `operation` clears the signals last, and TICK returns SEQ to rest. -/
theorem operationsLeaveNoSignal : Obligations.OperationsLeaveNoSignal := by
  intro l s hl hwf hseq
  refine ⟨effect l.instr s, exec_of_wf _ hwf, ?_⟩
  cases l with
  | i => exact absurd rfl hl
  | t =>
    rw [Letter.instr, tick_effect]
    exact ⟨⟨rfl, rfl, rfl, rfl⟩, rfl, rfl, rfl, rfl, rfl, rfl, rfl, rfl⟩
  | a =>
    rw [Letter.instr, edgeA_effect]
    exact ⟨⟨hseq, rfl, rfl, rfl⟩, rfl, rfl, rfl, rfl, rfl, rfl, rfl, rfl⟩
  | b => exact ⟨⟨hseq, rfl, rfl, rfl⟩, rfl, rfl, rfl, rfl, rfl, rfl, rfl, rfl⟩

/-! PRESS and COOL (R13, R14). -/

theorem effect_pin_press_cool_le (p : Pin) (s : State) :
    (effect p.instr s).press ≤ s.press ∧ (effect p.instr s).cool ≤ s.cool := by
  cases p with
  | rst => exact ⟨Nat.zero_le _, Nat.zero_le _⟩
  | _ => exact ⟨le_rfl, le_rfl⟩

/-- TICK counts COOL down and clears PRESS at a dispatch. -/
theorem tick_press_cool_le (s : State) : (effect .tick s).press ≤ s.press ∧ (effect .tick s).cool ≤ s.cool := by
  rw [tick_effect]
  refine ⟨?_, Nat.sub_le _ _⟩
  dsimp only
  split <;> omega

/-- Serving T or B, unlike A, raises neither (R108). -/
theorem served_press_cool_le {x : Source} (hx : x ≠ .a) (s : State) :
    (effect (decodeOp (opCode (some x))) s).press ≤ s.press ∧ (effect (decodeOp (opCode (some x))) s).cool ≤ s.cool := by
  rw [decodeOp_opCode]
  cases x with
  | t => exact tick_press_cool_le s
  | a => exact absurd rfl hx
  | b => exact ⟨le_rfl, le_rfl⟩

/-- Settles O39: of the served operations EDGE_A alone raises PRESS or COOL, and no pin does. -/
theorem pressCountsOnlyByEdgeA : Obligations.PressCountsOnlyByEdgeA := by
  intro s t hstep hserve
  rw [← useTurn_press s, ← useTurn_cool s]
  obtain ⟨-, ⟨p, -, -, rfl⟩ | ⟨x, n, he, -, -, -, rfl⟩ | ⟨-, -, -, rfl⟩ | ⟨-, -, rfl⟩⟩ := step_cases hstep
  · exact effect_pin_press_cool_le p _
  · have hx : x ≠ .a := fun hxa => hserve (hxa ▸ he)
    rw [setIe_press, setIe_cool]
    exact served_press_cool_le hx (setIe false (setPend x false { useTurn s with freeIdx := n }))
  · exact ⟨le_rfl, le_rfl⟩
  · exact ⟨le_rfl, le_rfl⟩

end Sys2Proof.Machine
end

section
/-! PROOFS. The family of 20_memory.md: the pins and the two ports of R31, with the values that R46 and R47 give the ports. -/

namespace Sys2Proof.Machine

/-! An occurrence on a pin (R31, R105). -/

theorem step_of_pin {s : State} {p : Pin} (hwf : s.cfg.wf = true) (hturn : nextTurn s = .pin p) :
    step s = .next (effect p.instr (useTurn s)) := by
  have hwf' : (useTurn s).cfg.wf = true := by rw [useTurn_cfg, hwf]
  rw [step_of_wf hwf, takeTurn, nextEvent_of_pin hturn, runEvent_of_wf _ hwf']

theorem toReset_useTurn (s : State) : toReset (useTurn s) =
    { State.resetWith s.cfg with
      agenda := (useTurn s).agenda, turnIdx := (useTurn s).turnIdx, freeIdx := (useTurn s).freeIdx } := by
  rw [toReset, useTurn_cfg]

/-- Settles O21: the step is the effect of the pin's operation, which for each pin is one write, RESET's apart. -/
theorem pinTurnRunsItsOperation : Obligations.PinTurnRunsItsOperation := by
  intro s p hwf hturn
  have hwf' : (useTurn s).cfg.wf = true := by rw [useTurn_cfg, hwf]
  rw [step_of_pin hwf hturn]
  refine ⟨⟨_, exec_of_wf _ hwf', rfl⟩, ?evT, ?evA, ?evB, ?rst, ?start⟩ <;> rintro rfl
  case rst => exact congrArg _ (toReset_useTurn s)
  all_goals rfl

/-! The ports (R31). -/

theorem indOut_eq (s : State) : indOut s = if s.lit then 1#1 else 0#1 := by
  unfold indOut
  cases s.lit <;> rfl

/-- R5's bound on M: neither value of `mag` is cut by the width of ACT_OUT. -/
theorem mag_lt_two_pow_magW {c : Config} (h : c.wf = true) (d : Bool) : mag c d < 2 ^ c.magW := by
  obtain ⟨-, -, -, -, -, hm, -⟩ := (Config.wf_iff c).mp h
  have hpow : 0 < 2 ^ c.magW := Nat.two_pow_pos c.magW
  cases d with
  | false => exact hpow
  | true => exact Nat.lt_of_le_sub_one hpow hm

theorem actOut_toNat {s : State} (h : s.cfg.wf = true) : (actOut s).toNat = mag s.cfg s.drv :=
  (BitVec.toNat_ofNat _ _).trans (Nat.mod_eq_of_lt (mag_lt_two_pow_magW h s.drv))

theorem actOut_of_idle {s : State} (h : s.drv = false) : actOut s = 0#s.cfg.magW := by
  rw [actOut, h]
  rfl

/-- Settles O54: ACT_OUT as a number is `mag(DRV)`, and R5 asks that M be no zero. -/
theorem portsShowRegisters : Obligations.PortsShowRegisters := by
  intro s hwf
  refine ⟨indOut_eq s, fun hdrv => ?_, actOut_of_idle⟩
  have hout : (actOut s).toNat = s.cfg.m := by rw [actOut_toNat hwf, hdrv]; rfl
  obtain ⟨-, -, -, -, hm, -⟩ := (Config.wf_iff s.cfg).mp hwf
  refine ⟨hout, fun hzero => ?_⟩
  rw [hzero, BitVec.toNat_zero] at hout
  omega

end Sys2Proof.Machine
end

section
/-! PROOFS. The family of 30_encoding.md: the formats OP, PH and DS (R42 to R45, R50), the rows of the opcode table (R51), and
traces as numbers (R52). -/

namespace Sys2Proof

/-! The 2-bit codes (R43, R44). -/

@[simp] theorem letterOf_code (l : Letter) : letterOf l.code = l := by
  cases l <;> rfl

@[simp] theorem code_letterOf (c : Code) : (letterOf c).code = c := by
  revert c
  decide

theorem decodeOp_code (l : Letter) : decodeOp l.code = l.instr := by
  cases l <;> rfl

/-! The decoder and the encoder (R42 to R45, R50). -/

/-- The operation a word names, its length left aside: what `decode` answers on every word that fits. -/
def CodeWord.operation (w : CodeWord) : Instr :=
  match w.format with
  | .op => decodeOp (BitVec.ofNat 2 w.bits)
  | .ph => (decodePhase (BitVec.ofNat 2 w.bits)).instr
  | .ds => (selectAction w.bits).instr w.bits

theorem decode_of_fits {pressW : Nat} {w : CodeWord} (h : w.fits pressW = true) :
    decode pressW w = .ok w.operation := by
  rw [decode, if_pos h, CodeWord.operation]
  cases w.format <;> rfl

theorem decode_of_not_fits {pressW : Nat} {w : CodeWord} (h : w.fits pressW = false) :
    decode pressW w = .error .tooWide :=
  if_neg (ne_true_of_eq_false h)

theorem fits_iff {pressW : Nat} {w : CodeWord} : w.fits pressW = true ↔ w.bits < 2 ^ w.format.width pressW :=
  decide_eq_true_iff

/-- The three words that name an action of their own, and the rest (R45). -/
theorem selectAction_eq_dNop_iff {sel : Nat} : selectAction sel = .dNop ↔ sel ≠ 1 ∧ sel ≠ 2 ∧ sel ≠ 3 := by
  unfold selectAction
  split <;> simp_all

theorem dNop_wf_iff {pressW sel : Nat} :
    (Instr.dNop sel).wf pressW = true ↔ selectAction sel = .dNop ∧ sel < 2 ^ pressW := by
  simp only [Instr.wf, selectAction_eq_dNop_iff, Bool.and_eq_true, bne_iff_ne, decide_eq_true_eq, and_assoc]

/-- The members of the family CodeFits (Laws/PerInstr.lean), one for each constructor, as one statement. -/
theorem encode_fits : ∀ i : Instr, Laws.CodeFits.Statement i
  | .idle => Laws.CodeFits.idle
  | .tick => Laws.CodeFits.tick
  | .edgeA => Laws.CodeFits.edgeA
  | .edgeB => Laws.CodeFits.edgeB
  | .tb => Laws.CodeFits.tb
  | .ind => Laws.CodeFits.ind
  | .auto => Laws.CodeFits.auto
  | .deb => Laws.CodeFits.deb
  | .dStop => Laws.CodeFits.dStop
  | .dReset => Laws.CodeFits.dReset
  | .dSpin => Laws.CodeFits.dSpin
  | .dNop sel => Laws.CodeFits.dNop sel
  | .dispatch => Laws.CodeFits.dispatch
  | .reset => Laws.CodeFits.reset
  | .start => Laws.CodeFits.start
  | .notifyT => Laws.CodeFits.notifyT
  | .notifyA => Laws.CodeFits.notifyA
  | .notifyB => Laws.CodeFits.notifyB

/-- The word of D_NOP names it because its selector is none of the three; every other word is a line of R43 to R45. -/
theorem operation_of_encode {pressW : Nat} {i : Instr} {w : CodeWord} (hi : i.wf pressW = true)
    (h : encode i = some w) : w.operation = i := by
  cases i with
  | dNop sel =>
    obtain rfl := Option.some.inj h
    obtain ⟨hsel, -⟩ := dNop_wf_iff.mp hi
    simp only [CodeWord.operation, hsel, Action.instr]
  | dispatch | reset | start | notifyT | notifyA | notifyB => cases h
  | _ => obtain rfl := Option.some.inj h; rfl

/-- A 2-bit word of format OP or PH names one of four operations, and a selector its action. -/
theorem encode_operation {pressW : Nat} {w : CodeWord} (h : w.fits pressW = true) :
    w.operation.wf pressW = true ∧ encode w.operation = some w := by
  obtain ⟨format, bits⟩ := w
  have hbits := fits_iff.mp h
  cases format with
  | op =>
    have hbits : bits < 4 := hbits
    interval_cases bits <;> exact ⟨rfl, rfl⟩
  | ph =>
    have hbits : bits < 4 := hbits
    interval_cases bits <;> exact ⟨rfl, rfl⟩
  | ds =>
    by_cases hsel : selectAction bits = .dNop
    · simp only [CodeWord.operation, hsel, Action.instr]
      exact ⟨dNop_wf_iff.mpr ⟨hsel, hbits⟩, rfl⟩
    · obtain rfl | rfl | rfl : bits = 1 ∨ bits = 2 ∨ bits = 3 := by
        rw [selectAction_eq_dNop_iff] at hsel
        omega
      all_goals exact ⟨rfl, rfl⟩

/-- Settles O56: the code word of an operation fits its format, and there it names the operation. -/
theorem decodeOfEncode : Obligations.DecodeOfEncode := by
  intro pressW i w hpressW hi hw
  rw [decode_of_fits (encode_fits i pressW hpressW hi w hw), operation_of_encode hi hw]

/-- Settles O57: the operation a fitting word names is well formed and encodes to the word; the decoder tests the length first. -/
theorem encodeOfDecode : Obligations.EncodeOfDecode :=
  fun _ w => ⟨fun h => ⟨w.operation, decode_of_fits h, encode_operation h⟩, decode_of_not_fits⟩

/-- Settles O59: each word's length is tested and its line of R43 to R45 read. -/
theorem wordsFromTheTables : Obligations.WordsFromTheTables :=
  ⟨rfl, rfl, rfl, rfl, rfl, rfl⟩

/-! The rows of the opcode table (R51): no two share a word, and every word has one. -/

/-- A word that two rows selected would show both patterns in the places that both masks keep. -/
theorem patterns_agree_of_selects {r q : Row} {w : CodeWord} (hr : r.selects w = true) (hq : q.selects w = true) :
    r.format = q.format ∧ (r.pattern ^^^ q.pattern) &&& (r.mask &&& q.mask) = 0 := by
  simp only [Row.selects, Bool.and_eq_true, beq_iff_eq] at hr hq
  obtain ⟨hrformat, hrbits⟩ := hr
  obtain ⟨hqformat, hqbits⟩ := hq
  refine ⟨hrformat.trans hqformat.symm, Nat.eq_of_testBit_eq fun i => ?_⟩
  rw [← hrbits, ← hqbits]
  simp only [Nat.testBit_and, Nat.testBit_xor, Nat.zero_testBit]
  cases w.bits.testBit i <;> cases r.mask.testBit i <;> cases q.mask.testBit i <;> rfl

theorem opcodeRows_disjoint (w : CodeWord) :
    opcodeRows.Pairwise fun r q => ¬ (r.selects w = true ∧ q.selects w = true) := by
  have hdiffer : opcodeRows.Pairwise fun r q =>
      ¬ (r.format = q.format ∧ (r.pattern ^^^ q.pattern) &&& (r.mask &&& q.mask) = 0) := by decide
  exact hdiffer.imp fun hne ⟨hr, hq⟩ => hne (patterns_agree_of_selects hr hq)

/-- A row that selects a word is the only one. -/
theorem filter_selects_of_mem {r : Row} {w : CodeWord} (hmem : r ∈ opcodeRows) (hr : r.selects w = true) :
    opcodeRows.filter (·.selects w) = [r] := by
  have hdisjoint := (opcodeRows_disjoint w).filter (·.selects w)
  have hmem' : r ∈ opcodeRows.filter (·.selects w) := List.mem_filter.mpr ⟨hmem, hr⟩
  have hall : ∀ q ∈ opcodeRows.filter (·.selects w), q.selects w = true := fun _ hq => (List.mem_filter.mp hq).2
  match hrows : opcodeRows.filter (·.selects w) with
  | [] => rw [hrows] at hmem'; cases hmem'
  | [q] => rw [hrows] at hmem'; rw [hrows, List.mem_singleton.mp hmem']
  | q :: q' :: rest =>
    rw [hrows] at hdisjoint hall
    exact absurd ⟨hall q (by simp), hall q' (by simp)⟩ (List.rel_of_pairwise_cons hdisjoint (by simp))

/-- A mask that keeps the places from `k` up clears the `k` lowest bits of a byte. -/
theorem land_highMask {b k : Nat} (hb : b < 2 ^ 8) (hk : k ≤ 8) : b &&& (2 ^ 8 - 2 ^ k) = b / 2 ^ k * 2 ^ k := by
  have hmask : 2 ^ 8 - 2 ^ k = 2 ^ 8 - ((2 ^ k - 1) + 1) := by rw [Nat.sub_add_cancel Nat.one_le_two_pow]
  have hlow : 2 ^ k - 1 < 2 ^ 8 := (Nat.sub_lt (Nat.two_pow_pos k) Nat.one_pos).trans_le (Nat.pow_le_pow_right (by decide) hk)
  refine Nat.eq_of_testBit_eq fun i => ?_
  rw [Nat.testBit_and, hmask, Nat.testBit_two_pow_sub_succ hlow, Nat.testBit_two_pow_sub_one, Nat.testBit_mul_two_pow,
    Nat.testBit_div_two_pow]
  obtain hi | hi := lt_or_ge i k
  · simp [hi, Nat.not_le.mpr hi]
  · obtain hi8 | hi8 := lt_or_ge i 8
    · simp [hi, hi8, Nat.not_lt.mpr hi]
    · simp [hi, Nat.testBit_lt_two_pow (hb.trans_le (Nat.pow_le_pow_right (by decide) hi8))]

/-- The rows of D_NOP but the one of selector 0, one for each place `k` of the highest bit (R45). -/
def dNopRow (k : Nat) : Row := { mnemonic := "D_NOP", format := .ds, pattern := 2 ^ k, mask := 2 ^ 8 - 2 ^ k }

theorem dNopRow_mem {k : Nat} (hlow : 2 ≤ k) (hhigh : k < 8) : dNopRow k ∈ opcodeRows := by
  interval_cases k <;> decide

theorem dNopRow_selects {b k : Nat} (hk : k < 8) (hlow : 2 ^ k ≤ b) (hhigh : b < 2 ^ (k + 1)) :
    (dNopRow k).selects { format := .ds, bits := b } = true := by
  have hb : b < 2 ^ 8 := hhigh.trans_le (Nat.pow_le_pow_right (by decide) hk)
  have hdiv : b / 2 ^ k = 1 := Nat.div_eq_of_lt_le (by omega) (by omega)
  simp only [Row.selects, dNopRow, land_highMask hb hk.le, hdiv, one_mul, beq_self_eq_true, Bool.and_self]

theorem exists_row_of_fits {w : CodeWord} (h : w.fits 8 = true) :
    ∃ r ∈ opcodeRows, r.selects w = true ∧ r.mnemonic = w.operation.mnemonic := by
  obtain ⟨format, bits⟩ := w
  have hbits := fits_iff.mp h
  cases format with
  | op =>
    have hbits : bits < 4 := hbits
    interval_cases bits <;> decide
  | ph =>
    have hbits : bits < 4 := hbits
    interval_cases bits <;> decide
  | ds =>
    have hbits : bits < 2 ^ 8 := hbits
    obtain hsmall | hlarge := lt_or_ge bits 4
    · interval_cases bits <;> decide
    · have hne : bits ≠ 0 := by omega
      have hk : bits.log2 < 8 := (Nat.log2_lt hne).mpr hbits
      have hsel : selectAction bits = .dNop := selectAction_eq_dNop_iff.mpr (by omega)
      refine ⟨dNopRow bits.log2, dNopRow_mem ((Nat.le_log2 hne).mpr hlarge) hk,
        dNopRow_selects hk (Nat.log2_self_le hne) Nat.lt_log2_self, ?_⟩
      simp only [CodeWord.operation, hsel]
      rfl

/-- Settles O58: a word's row is the only one that selects it. -/
theorem tableRowsAreTheDecoder : Obligations.TableRowsAreTheDecoder := by
  intro w h
  obtain ⟨r, hmem, hselects, hmnemonic⟩ := exists_row_of_fits h
  exact ⟨w.operation, r, decode_of_fits h, filter_selects_of_mem hmem hselects, hmnemonic⟩

/-! Traces as numbers (R52). -/

theorem encodeTrace_append (a b : List Letter) :
    encodeTrace (a ++ b) = encodeTrace a * 4 ^ b.length + encodeTrace b := by
  induction a with
  | nil => simp [encodeTrace]
  | cons l a ih =>
    simp only [List.cons_append, encodeTrace, ih, List.length_append, pow_add]
    ring

theorem encodeTrace_lt (tr : List Letter) : encodeTrace tr < 4 ^ tr.length := by
  induction tr with
  | nil => exact Nat.one_pos
  | cons l tr ih =>
    have hcode : l.code.toNat < 4 := l.code.isLt
    rw [encodeTrace, List.length_cons, pow_succ']
    nlinarith

/-- The operation number `k` splits a trace into those before it, which stand higher, and those after it, which stand lower. -/
theorem encodeTrace_place (tr : List Letter) (k : Nat) (h : k < tr.length) :
    encodeTrace tr / 4 ^ (tr.length - 1 - k) % 4 = tr[k].code.toNat := by
  have hcode : tr[k].code.toNat < 4 := tr[k].code.isLt
  have hlen : (tr.drop (k + 1)).length = tr.length - 1 - k := by rw [List.length_drop]; omega
  have hrest : encodeTrace (tr.drop (k + 1)) < 4 ^ (tr.length - 1 - k) := hlen ▸ encodeTrace_lt _
  have hsplit : encodeTrace tr =
      4 ^ (tr.length - 1 - k) * (4 * encodeTrace (tr.take k) + tr[k].code.toNat) + encodeTrace (tr.drop (k + 1)) := by
    conv_lhs => rw [← List.take_append_drop k tr, List.drop_eq_getElem_cons h]
    rw [encodeTrace_append, encodeTrace, List.length_cons, hlen]
    ring
  rw [hsplit, Nat.mul_add_div (by positivity), Nat.div_eq_of_lt hrest, add_zero, Nat.mul_add_mod, Nat.mod_eq_of_lt hcode]

theorem decodeTrace_encodeTrace (tr : List Letter) : decodeTrace tr.length (encodeTrace tr) = some tr := by
  induction tr with
  | nil => rfl
  | cons l tr ih =>
    have hlow := encodeTrace_lt tr
    have hlt : encodeTrace (l :: tr) < 4 ^ (tr.length + 1) := encodeTrace_lt (l :: tr)
    have hdiv : encodeTrace (l :: tr) / 4 ^ tr.length = l.code.toNat := by
      rw [encodeTrace, mul_comm, Nat.mul_add_div (by positivity), Nat.div_eq_of_lt hlow, add_zero]
    have hmod : encodeTrace (l :: tr) % 4 ^ tr.length = encodeTrace tr := by
      rw [encodeTrace, mul_comm, Nat.mul_add_mod, Nat.mod_eq_of_lt hlow]
    rw [List.length_cons, decodeTrace, if_pos hlt, hdiv, hmod, ih, BitVec.ofNat_toNat,
      BitVec.setWidth_eq, letterOf_code]
    rfl

theorem encodeTrace_of_lt {n w : Nat} (h : w < 4 ^ n) :
    ∃ tr, decodeTrace n w = some tr ∧ tr.length = n ∧ encodeTrace tr = w := by
  induction n generalizing w with
  | zero =>
    obtain rfl : w = 0 := Nat.lt_one_iff.mp h
    exact ⟨[], rfl, rfl, rfl⟩
  | succ n ih =>
    obtain ⟨tr, hdecode, hlen, hencode⟩ := ih (Nat.mod_lt w (by positivity))
    have htop : w / 4 ^ n < 4 := Nat.div_lt_of_lt_mul (by rwa [← pow_succ])
    refine ⟨letterOf (BitVec.ofNat 2 (w / 4 ^ n)) :: tr, ?_, congrArg (· + 1) hlen, ?_⟩
    · rw [decodeTrace, if_pos h, hdecode]
      rfl
    · rw [encodeTrace, code_letterOf, BitVec.toNat_ofNat, Nat.mod_eq_of_lt htop, hlen, hencode, Nat.div_add_mod']

/-- Settles O60: every letter's code, the place of every operation, and the round trip both ways. -/
theorem traceCodeRoundTrip : Obligations.TraceCodeRoundTrip :=
  ⟨decodeOp_code, rfl, fun tr _ _ => ⟨encodeTrace_place tr, decodeTrace_encodeTrace tr, encodeTrace_of_lt⟩⟩

end Sys2Proof

namespace Sys2Proof.Machine

/-! The pseudo-operation PRESS(k) of R53: the window that an accepted edge opens, and the next edge. -/

/-- Until the window has drained TICKs count COOL down and leave PRESS alone (43_debounce_dispatch.md R84). -/
theorem runTrace_ticks_of_le_cool {n : Nat} {s : State} (hwf : s.cfg.wf = true) (hn : n ≤ s.cool) :
    ∃ t, runTrace (ticks n) s = .next t ∧ t.cfg = s.cfg ∧ t.cool = s.cool - n ∧ t.press = s.press := by
  induction n generalizing s with
  | zero => exact ⟨s, rfl, rfl, rfl, rfl⟩
  | succ n ih =>
    have hopen : s.cool ≠ 0 := by omega
    have hcool : (effect .tick s).cool = s.cool - 1 := by rw [tick_effect]
    have hpress : (effect .tick s).press = s.press := by rw [tick_effect]; exact if_neg hopen
    obtain ⟨t, hrun, htcfg, htcool, htpress⟩ := ih (s := effect .tick s) (by rwa [effect_cfg]) (by omega)
    rw [ticks_succ, runTrace_cons _ _ hwf]
    exact ⟨t, hrun, by rw [htcfg, effect_cfg], by omega, htpress.trans hpress⟩

/-- An edge below the threshold counts, if PRESS can hold one more, and opens the full window (43_debounce_dispatch.md R80). -/
theorem edgeA_of_accepted {s : State} (hcool : s.cool < thresh s.cfg) (hpress : s.press < s.cfg.pressMax) :
    (effect .edgeA s).press = s.press + 1 ∧ (effect .edgeA s).cool = s.cfg.top := by
  have haccept : acceptOf s = true := decide_eq_true hcool
  rw [edgeA_effect]
  simp only [haccept, if_true, satInc, if_pos hpress, and_self]

/-- GUARD + 1 ticks after an accepted edge COOL has just passed below the threshold, so the next edge is accepted. -/
theorem runTrace_morePresses {c : Config} (hwf : c.wf = true) {k : Nat} {s : State} (hcfg : s.cfg = c)
    (hcool : s.cool = c.top) (hpress : s.press + k ≤ c.pressMax) :
    ∃ t, runTrace (morePresses c k) s = .next t ∧ t.press = s.press + k ∧ t.cool = c.top := by
  induction k generalizing s with
  | zero => exact ⟨s, rfl, rfl, hcool⟩
  | succ k ih =>
    obtain ⟨-, -, -, hguard, -⟩ := (Config.wf_iff c).mp hwf
    subst hcfg
    obtain ⟨u, hrun, hucfg, hucool, hupress⟩ := runTrace_ticks_of_le_cool hwf (n := s.cfg.guard + 1) (by omega)
    obtain ⟨hedgePress, hedgeCool⟩ := edgeA_of_accepted (s := u) (by rw [thresh, hucfg]; omega) (by rw [hucfg]; omega)
    rw [hucfg] at hedgeCool
    obtain ⟨t, hrest, htpress, htcool⟩ := ih (s := effect .edgeA u) (by rw [effect_cfg, hucfg]) hedgeCool (by omega)
    refine ⟨t, ?_, by omega, htcool⟩
    rw [morePresses, runTrace_append hrun, runTrace_cons _ _ (by rwa [hucfg])]
    exact hrest

/-- Settles O52: the first edge from launch is accepted, and each further one after GUARD + 1 ticks. -/
theorem pressesAreCounted : Obligations.PressesAreCounted := by
  intro c k hwf hpos hmax
  obtain ⟨-, -, -, hguard, -⟩ := (Config.wf_iff c).mp hwf
  obtain ⟨hpress, hcool⟩ := edgeA_of_accepted (s := State.launch c) (Nat.sub_pos_of_lt hguard) (hpos.trans hmax)
  rw [launch_press] at hpress
  rw [launch_cfg] at hcool
  obtain ⟨t, hrun, htpress, htcool⟩ :=
    runTrace_morePresses hwf (k := k - 1) (s := effect .edgeA (State.launch c)) (effect_cfg _ _) hcool (by omega)
  refine ⟨t, ?_, by omega, htcool⟩
  rw [presses, runTrace_cons _ _ (s := State.launch c) hwf]
  exact hrun

end Sys2Proof.Machine
end

section
/-! PROOFS. The family of 40_tick_time_base.md: the phases of TICK in their order (R60), the time base as a modular counter pair
(R62) and its closed form (R63), and what stands still while no TICK is served (R61). -/

namespace Sys2Proof.Machine

/-! The comparisons of phase TB (R62), the blink table (R48), and a counter that wraps. -/

theorem secondWraps_iff (s : State) : secondWraps s = true ↔ s.tickcnt + 1 = s.cfg.tps := beq_iff_eq

theorem cycleCompleteOf_iff (s : State) :
    cycleCompleteOf s = true ↔ s.tickcnt + 1 = s.cfg.tps ∧ s.elapsed + 1 = s.cfg.period := by
  rw [cycleCompleteOf, Bool.and_eq_true, secondWraps_iff, beq_iff_eq]

theorem blink_iff (e : Nat) : blink e = true ↔ e = 1 ∨ e = 3 := by
  rw [blink, Bool.or_eq_true, beq_iff_eq, beq_iff_eq]

/-- The explicit wrap of R62's pseudocode is the modular counter while the counter is in range. -/
theorem wrap_eq_mod {v n : Nat} (h : v < n) : (if v + 1 = n then 0 else v + 1) = (v + 1) % n := by
  split
  · next hwrap => rw [hwrap, Nat.mod_self]
  · rw [Nat.mod_eq_of_lt (by omega)]

theorem wrap_eq_zero_iff {v n : Nat} : (if v + 1 = n then 0 else v + 1) = 0 ↔ v + 1 = n :=
  ite_eq_left_iff.trans (by omega)

/-! One TICK (R60). -/

theorem clearSignals_of_atRest {s : State} (h : s.AtRest) : clearSignals s = s := by
  obtain ⟨-, hcycle, haccept, hfire⟩ := h
  cases s
  simp_all [clearSignals]

theorem clearSignals_of_accept_eq_false {s : State} (h : s.accept = false) :
    clearSignals s = { s with cycleComplete := false, fire := false } := by
  rw [clearSignals, h]

/-- `accept` is EDGE_A's: no phase of TICK writes it (R18). -/
theorem effect_phase_accept (p : Phase) (s : State) : (effect p.instr s).accept = s.accept := by
  cases p with
  | tb => simp only [Phase.instr, effect, tbPhase_eq]
  | ind => rfl
  | auto => simp only [Phase.instr, effect, autoPhase_eq]
  | deb => simp only [Phase.instr, effect, debPhase_eq]

/-- A phase run with SEQ naming it is one stop of the sequencer (R17). -/
theorem exec_phase (p : Phase) {s : State} (h : s.cfg.wf = true) :
    exec p.instr { s with seq := some p } = .next (runPhase p (effect p.instr) s) :=
  exec_of_wf _ h

theorem runPhase_wf (p : Phase) {s : State} (h : s.cfg.wf = true) :
    (runPhase p (effect p.instr) s).cfg.wf = true := by
  rw [runPhase, effect_cfg]
  exact h

theorem runPhase_accept (p : Phase) {s : State} (h : s.accept = false) :
    (runPhase p (effect p.instr) s).accept = false := by
  rw [runPhase, effect_phase_accept]
  exact h

/-- Settles O3: the signals are clear before TB already, and no phase writes `accept`. -/
theorem tickIsItsFourPhasesInOrder : Obligations.TickIsItsFourPhasesInOrder := by
  refine ⟨rfl, fun s hwf hrest => ?_⟩
  have ⟨_, _, haccept, _⟩ := hrest
  have hwf1 := runPhase_wf .tb hwf
  have hwf2 := runPhase_wf .ind hwf1
  have hwf3 := runPhase_wf .auto hwf2
  have haccept4 := runPhase_accept .deb (runPhase_accept .auto (runPhase_accept .ind (runPhase_accept .tb haccept)))
  refine ⟨_, _, _, _, exec_phase .tb hwf, exec_phase .ind hwf1, exec_phase .auto hwf2, exec_phase .deb hwf3, ?_⟩
  have htick : effect .tick s = clearSignals (fourPhases s) :=
    congrArg (fun u => clearSignals (fourPhases u)) (clearSignals_of_atRest hrest)
  rw [exec_of_wf _ hwf, htick, clearSignals_of_accept_eq_false (s := fourPhases s) haccept4]
  rfl

/-- Settles O2: the record that one TICK makes, its comparisons read as R60 and R62 write them. -/
theorem tickRegisterValues : Obligations.TickRegisterValues := by
  rintro s e hwf rfl
  refine ⟨effect .tick s, exec_of_wf _ hwf, ?_⟩
  rw [tick_effect]
  simp only [elapsedAfterTb, nextSecond, secondWraps_iff, blink_iff, true_and]
  refine ⟨?_, ⟨rfl, rfl, rfl, rfl, rfl, rfl, rfl, rfl⟩, rfl, rfl, rfl, rfl⟩
  by_cases hstop : s.cool = 0 ∧ s.press = 1
  · simp [hstop]
  by_cases hspin : s.cool = 0 ∧ s.press = 3
  · simp [hspin]
  · simp only [if_neg hstop, if_neg hspin, Bool.or_eq_true, cycleCompleteOf_iff]
    tauto

/-! Phase TB (R62), and the clock that TICKCNT and ELAPSED make up (R63). -/

theorem tb_effect (s : State) : effect .tb s =
    { s with
      tickcnt := if s.tickcnt + 1 = s.cfg.tps then 0 else s.tickcnt + 1
      elapsed :=
        if s.tickcnt + 1 = s.cfg.tps then (if s.elapsed + 1 = s.cfg.period then 0 else s.elapsed + 1) else s.elapsed
      cycleComplete := decide (s.tickcnt + 1 = s.cfg.tps) && decide (s.elapsed + 1 = s.cfg.period) } := by
  simp only [effect, tbPhase_eq, secondWraps_iff, nextSecond]
  rfl

/-- Settles O7: each counter wraps exactly where it becomes 0. -/
theorem tbIsModularCounterPair : Obligations.TbIsModularCounterPair := by
  refine ⟨rfl, fun s hwf => ?_⟩
  rw [exec_of_wf .tb hwf, tb_effect]
  refine ⟨rfl, fun htick helapsed => ⟨_, rfl, wrap_eq_mod htick, ?_, ?_⟩⟩
  · simp only [wrap_eq_zero_iff, wrap_eq_mod helapsed]
  · by_cases hwrap : s.tickcnt + 1 = s.cfg.tps
    · simp only [hwrap, if_true, decide_true, Bool.true_and, decide_eq_true_eq, true_and, wrap_eq_zero_iff]
    · simp [hwrap]

/-- The ticks since the cycle began. -/
def clock (s : State) : Nat := s.tickcnt + s.cfg.tps * s.elapsed

/-- A counter that wraps loses its period exactly when it wraps. -/
theorem wrap_add (v n : Nat) : (if v + 1 = n then 0 else v + 1) + n * (if v + 1 = n then 1 else 0) = v + 1 := by
  split <;> omega

/-- One TICK without D_RESET adds one to the clock, which loses a whole cycle exactly when the TICK signals cycle complete. -/
theorem clock_tick {s : State} (hreset : ¬ s.ResetDue) :
    clock (effect .tick s) + s.cfg.tps * s.cfg.period * (if cycleCompleteOf s then 1 else 0) = clock s + 1 := by
  have hsecond := wrap_add s.elapsed s.cfg.period
  rw [tick_effect]
  simp only [clock, if_neg hreset, elapsedAfterTb, nextSecond, secondWraps_iff, cycleCompleteOf_iff]
  by_cases hwrap : s.tickcnt + 1 = s.cfg.tps
  · simp only [hwrap, if_true, true_and]
    linear_combination s.cfg.tps * hsecond + hwrap.symm
  · simp only [hwrap, if_false, false_and]
    ring

/-- TICK keeps both counters of the time base in range (R24 (a), (b)). -/
theorem tick_counters_inRange {s : State} (htick : s.tickcnt < s.cfg.tps) (helapsed : s.elapsed < s.cfg.period) :
    (effect .tick s).tickcnt < s.cfg.tps ∧ (effect .tick s).elapsed < s.cfg.period := by
  rw [tick_effect]
  refine ⟨tickcntAfterTb_lt_tps htick, ?_⟩
  have hafter := elapsedAfterTb_lt_period helapsed
  dsimp only
  split <;> omega

theorem cyclesSignalled_succ (n : Nat) {s : State} (h : s.cfg.wf = true) :
    cyclesSignalled (n + 1) s = (if cycleCompleteOf s then 1 else 0) + cyclesSignalled n (effect .tick s) := by
  rw [cyclesSignalled, exec_of_wf _ h]

/-- The conservation law behind R63: over `n` TICKs without D_RESET the clock, with the whole cycles signalled, gains `n`. -/
theorem runTrace_ticks_clock {n : Nat} {s : State} (hwf : s.cfg.wf = true) (htick : s.tickcnt < s.cfg.tps)
    (helapsed : s.elapsed < s.cfg.period)
    (hreset : ∀ k u, k < n → runTrace (ticks k) s = .next u → ¬ u.ResetDue) :
    ∃ t, runTrace (ticks n) s = .next t ∧ t.cfg = s.cfg ∧ t.tickcnt < s.cfg.tps ∧ t.elapsed < s.cfg.period ∧
      clock t + s.cfg.tps * s.cfg.period * cyclesSignalled n s = clock s + n := by
  induction n generalizing s with
  | zero => exact ⟨s, rfl, rfl, htick, helapsed, rfl⟩
  | succ n ih =>
    have hfirst := clock_tick (hreset 0 s n.succ_pos rfl)
    obtain ⟨htick', helapsed'⟩ := tick_counters_inRange htick helapsed
    have hrest : ∀ k u, k < n → runTrace (ticks k) (effect .tick s) = .next u → ¬ u.ResetDue := fun k u hk hrun =>
      hreset (k + 1) u (by omega) (by rw [ticks_succ, runTrace_cons _ _ hwf]; exact hrun)
    rw [← effect_cfg .tick s] at hwf htick' helapsed'
    obtain ⟨t, hrun, hcfg, httick, htelapsed, hclock⟩ := ih hwf htick' helapsed' hrest
    rw [effect_cfg] at hwf hcfg httick htelapsed hclock
    refine ⟨t, ?_, hcfg, httick, htelapsed, ?_⟩
    · rw [ticks_succ, runTrace_cons _ _ hwf]
      exact hrun
    · rw [cyclesSignalled_succ n hwf, Nat.mul_add]
      omega

/-- A number written with two wrapping digits and a carry has exactly these digits and this carry. -/
theorem mod_div_of_digits {x y c n m v : Nat} (hx : x < n) (hy : y < m) (h : x + n * (y + m * c) = v) :
    x = v % n ∧ y = v / n % m ∧ c = v / n / m := by
  subst h
  have hn : 0 < n := by omega
  have hdiv : (x + n * (y + m * c)) / n = y + m * c := by
    rw [Nat.add_mul_div_left _ _ hn, Nat.div_eq_of_lt hx, Nat.zero_add]
  have hm : 0 < m := by omega
  rw [hdiv, Nat.add_mul_mod_self_left, Nat.mod_eq_of_lt hx, Nat.add_mul_mod_self_left, Nat.mod_eq_of_lt hy,
    Nat.add_mul_div_left _ _ hm, Nat.div_eq_of_lt hy, Nat.zero_add]
  exact ⟨rfl, rfl, rfl⟩

/-- Settles O48: the digits of the clock after `n` TICKs are TICKCNT and ELAPSED, and its carry counts the cycles. -/
theorem ticksClosedForm : Obligations.TicksClosedForm := by
  intro n s hwf htick helapsed hreset
  obtain ⟨t, hrun, hcfg, httick, htelapsed, hclock⟩ := runTrace_ticks_clock hwf htick helapsed hreset
  have hdigits : t.tickcnt + s.cfg.tps * (t.elapsed + s.cfg.period * cyclesSignalled n s) =
      s.tickcnt + n + s.cfg.tps * s.elapsed := by
    rw [clock, clock, hcfg] at hclock
    linarith
  obtain ⟨hmod, hdiv, hcycles⟩ := mod_div_of_digits httick htelapsed hdigits
  rw [Nat.add_mul_mod_self_left] at hmod
  rw [Nat.add_mul_div_left _ _ (by omega), Nat.add_comm _ s.elapsed] at hdiv hcycles
  exact ⟨t, hrun, hmod, hdiv, hcycles⟩

/-! What stands still while no TICK is served (R61). -/

/-- Time, the indicator and the countdown have not moved: what R61 promises where no TICK is served. -/
abbrev TimeStands (s t : State) : Prop :=
  t.tickcnt = s.tickcnt ∧ t.elapsed = s.elapsed ∧ t.lit = s.lit ∧ s.cool ≤ t.cool ∧ s.press ≤ t.press

theorem timeStands_refl (s : State) : TimeStands s s := ⟨rfl, rfl, rfl, le_rfl, le_rfl⟩

/-- Of the pins RESET alone touches the registers. -/
theorem timeStands_pin {p : Pin} (hp : p ≠ .rst) (s : State) : TimeStands s (effect p.instr s) := by
  cases p with
  | rst => exact absurd rfl hp
  | _ => exact timeStands_refl s

theorem le_satInc {c : Config} {v : Nat} (h : v ≤ c.pressMax) : v ≤ satInc c v := by
  unfold satInc
  split <;> omega

/-- An accepted edge found COOL below THRESH, so the reload to TOP raises it. -/
theorem timeStands_edgeA {s : State} (hpress : s.press ≤ s.cfg.pressMax) : TimeStands s (effect .edgeA s) := by
  rw [edgeA_effect]
  cases haccept : acceptOf s with
  | true =>
    have hcool : s.cool < s.cfg.top - s.cfg.guard := of_decide_eq_true haccept
    have htop : s.cool ≤ s.cfg.top := by omega
    exact ⟨rfl, rfl, rfl, htop, le_satInc hpress⟩
  | false => exact timeStands_refl s

/-- Serving A or B, unlike T, moves no time (R108). -/
theorem timeStands_served {x : Source} (hx : x ≠ .t) {s : State} (hpress : s.press ≤ s.cfg.pressMax) :
    TimeStands s (effect (decodeOp (opCode (some x))) s) := by
  rw [decodeOp_opCode]
  cases x with
  | t => exact absurd rfl hx
  | a => exact timeStands_edgeA hpress
  | b => exact timeStands_refl s

theorem timeStands_useTurn_iff (s t : State) : TimeStands (useTurn s) t ↔ TimeStands s t := by
  simp only [TimeStands, useTurn_tickcnt, useTurn_elapsed, useTurn_lit, useTurn_cool, useTurn_press]

/-- Settles O38: of the events of R105 only RESET and serve(T) move time. -/
theorem timeAdvancesOnlyByTick : Obligations.TimeAdvancesOnlyByTick := by
  intro s t hpress hstep hserve hreset
  rw [← useTurn_press s, ← useTurn_cfg s] at hpress
  refine (timeStands_useTurn_iff s t).mp ?_
  obtain ⟨-, ⟨p, he, -, rfl⟩ | ⟨x, n, he, -, -, -, rfl⟩ | ⟨-, -, -, rfl⟩ | ⟨-, -, rfl⟩⟩ := step_cases hstep
  · exact timeStands_pin (fun hp => hreset (hp ▸ he)) _
  · have hx : x ≠ .t := fun hxt => hserve (hxt ▸ he)
    exact timeStands_served hx (s := setIe false (setPend x false { useTurn s with freeIdx := n })) hpress
  · exact timeStands_refl _
  · exact timeStands_refl _

end Sys2Proof.Machine
end

section
/-! PROOFS. The family of 41_indicator.md: phase IND and the blink table (R70, R71), and the one tick by which LIT lags a D_RESET
(R72). -/

namespace Sys2Proof.Machine

/-- Settles O8: phase IND is one write, by the blink table. -/
theorem indDrivesBlink : Obligations.IndDrivesBlink :=
  ⟨rfl, fun _ hwf => exec_of_wf .ind hwf⟩

/-! LIT and ELAPSED after one TICK: IND shows the ELAPSED of phase TB, which a D_RESET in phase DEB clears after it. -/

theorem tick_lit (s : State) : (effect .tick s).lit = blink (elapsedAfterTb s) := by
  rw [tick_effect]

theorem tick_elapsed (s : State) : (effect .tick s).elapsed = if s.ResetDue then 0 else elapsedAfterTb s := by
  rw [tick_effect]

theorem tick_elapsed_of_resetDue {s : State} (h : s.ResetDue) : (effect .tick s).elapsed = 0 := by
  rw [tick_elapsed, if_pos h]

theorem tick_lit_iff_of_not_resetDue {s : State} (h : ¬ s.ResetDue) :
    (effect .tick s).lit = true ↔ (effect .tick s).elapsed = 1 ∨ (effect .tick s).elapsed = 3 := by
  rw [tick_lit, blink_iff, tick_elapsed, if_neg h]

/-- A dispatch clears PRESS (43_debounce_dispatch.md R86), so the TICK after a D_RESET runs none. -/
theorem not_resetDue_tick {s : State} (h : s.ResetDue) : ¬ (effect .tick s).ResetDue := by
  obtain ⟨hcool, -⟩ := h
  have hpress : (effect .tick s).press = 0 := by rw [tick_effect]; exact if_pos hcool
  rintro ⟨-, htwo⟩
  omega

/-- The blink table at the ELAPSED of phase TB, in the registers before the TICK: dark where the cycle wraps to second 0. -/
theorem blink_elapsedAfterTb_iff (s : State) : blink (elapsedAfterTb s) = true ↔
    (s.tickcnt + 1 ≠ s.cfg.tps ∧ (s.elapsed = 1 ∨ s.elapsed = 3)) ∨
      (s.tickcnt + 1 = s.cfg.tps ∧ s.elapsed + 1 ≠ s.cfg.period ∧ (s.elapsed = 0 ∨ s.elapsed = 2)) := by
  simp only [blink_iff, elapsedAfterTb, secondWraps_iff, nextSecond]
  by_cases hsecond : s.tickcnt + 1 = s.cfg.tps
  · by_cases hcycle : s.elapsed + 1 = s.cfg.period
    · simp [hsecond, hcycle]
    · simp [hsecond, hcycle]
  · simp [hsecond]

/-- Settles O46: without a D_RESET the ELAPSED that IND read is the ELAPSED after the TICK. -/
theorem indicatorFollowsBlink : Obligations.IndicatorFollowsBlink := by
  intro s t htick hreset
  obtain ⟨-, rfl⟩ := exec_eq_next.mp htick
  exact tick_lit_iff_of_not_resetDue hreset

/-- Settles O47: the first TICK's IND comes before its D_RESET, and the second TICK runs no D_RESET. -/
theorem indicatorLagsResetByOneTick : Obligations.IndicatorLagsResetByOneTick := by
  intro s hwf hreset
  have hwf' : (effect .tick s).cfg.wf = true := by rwa [effect_cfg]
  refine ⟨_, _, exec_of_wf .tick hwf, exec_of_wf .tick hwf', tick_elapsed_of_resetDue hreset, ?lag, ?right⟩
  case lag => rw [tick_lit, blink_elapsedAfterTb_iff]
  case right => exact tick_lit_iff_of_not_resetDue (not_resetDue_tick hreset)

end Sys2Proof.Machine
end

section
/-! PROOFS. The family of 42_actuator.md: phase AUTO (R75), the actuator's transition table (R76), two writers of DRV in one TICK
(R77), and the ways out of Driving (R78). -/

namespace Sys2Proof.Machine

/-! What each operation leaves in DRV. -/

theorem auto_effect_of_trigger {s : State} (hcycle : s.cycleComplete = true) (hidle : s.drv = false) :
    effect .auto s = { s with drv := true } :=
  if_pos (by rw [hcycle, hidle]; rfl)

theorem auto_effect_of_driving {s : State} (hdriving : s.drv = true) : effect .auto s = s :=
  if_neg (by simp [hdriving])

theorem auto_effect_of_no_cycle {s : State} (hcycle : s.cycleComplete = false) : effect .auto s = s :=
  if_neg (by simp [hcycle])

theorem auto_drv (s : State) : (effect .auto s).drv = (s.cycleComplete || s.drv) := by
  rw [effect, autoPhase_eq]

/-- DEB's action comes after AUTO (R77): D_STOP and D_SPIN have the last word, and without either AUTO has it. -/
theorem tick_drv (s : State) : (effect .tick s).drv =
    if s.cool = 0 ∧ s.press = 1 then false
    else if s.cool = 0 ∧ s.press = 3 then true else cycleCompleteOf s || s.drv := by
  rw [tick_effect]

theorem tick_press_of_drained {s : State} (h : s.cool = 0) : (effect .tick s).press = 0 := by
  rw [tick_effect]
  exact if_pos h

theorem edgeA_drv (s : State) : (effect .edgeA s).drv = s.drv := by
  rw [edgeA_effect]

/-- The last row of R76: neither AUTO nor an action writes DRV. -/
theorem tick_drv_of_no_writer {s : State} (hcycle : ¬ (s.tickcnt + 1 = s.cfg.tps ∧ s.elapsed + 1 = s.cfg.period))
    (hdispatch : ¬ (s.cool = 0 ∧ 0 < s.press)) : (effect .tick s).drv = s.drv := by
  have hno : cycleCompleteOf s = false := Bool.eq_false_iff.mpr (mt (cycleCompleteOf_iff s).mp hcycle)
  rw [tick_drv, if_neg (by omega), if_neg (by omega), hno, Bool.false_or]

/-- Settles O9: the trigger's guard, case by case. -/
theorem autoTriggersOnlyFromIdle : Obligations.AutoTriggersOnlyFromIdle := by
  refine ⟨rfl, fun s hwf => ?_⟩
  rw [exec_of_wf .auto hwf]
  exact ⟨fun hcycle hidle => congrArg _ (auto_effect_of_trigger hcycle hidle),
    fun _ hdriving => congrArg _ (auto_effect_of_driving hdriving),
    fun hcycle => congrArg _ (auto_effect_of_no_cycle hcycle)⟩

/-- Settles O40: each row's operation completes, with DRV as its effect leaves it. -/
theorem actuatorTransitionTable : Obligations.ActuatorTransitionTable := fun s hwf =>
  ⟨⟨_, exec_of_wf .auto hwf, auto_drv s⟩,
    ⟨_, exec_of_wf .dSpin hwf, rfl⟩,
    ⟨_, exec_of_wf .dStop hwf, rfl⟩,
    ⟨_, exec_of_wf .dReset hwf, rfl⟩,
    fun sel => ⟨_, exec_of_wf (.dNop sel) hwf, rfl⟩,
    ⟨_, exec_of_wf .edgeB hwf, rfl⟩,
    ⟨_, exec_of_wf .edgeA hwf, edgeA_drv s⟩,
    fun hcycle hdispatch => ⟨_, exec_of_wf .tick hwf, tick_drv_of_no_writer hcycle hdispatch⟩⟩

/-- Settles O41: the wrap to second 0 is dark, and AUTO's write stands unless the action is D_STOP. -/
theorem dispatchHasTheLastWord : Obligations.DispatchHasTheLastWord := by
  intro s hwf htick helapsed hcool _
  have hcycle : cycleCompleteOf s = true := (cycleCompleteOf_iff s).mpr ⟨htick, helapsed⟩
  refine ⟨_, exec_of_wf .tick hwf, tick_press_of_drained hcool, ?lit, ?drv⟩
  case lit =>
    rw [tick_lit, Bool.eq_false_iff, Ne, blink_elapsedAfterTb_iff]
    omega
  case drv =>
    rw [tick_drv, hcycle]
    by_cases hstop : s.press = 1
    · simp [hcool, hstop]
    · simp [hstop]

/-! The ways out of Driving (R78). -/

/-- Of TICK's writers D_STOP alone clears DRV. -/
theorem stop_dispatched_of_tick_drv {s : State} (hdriving : s.drv = true) (hidle : (effect .tick s).drv = false) :
    s.cool = 0 ∧ s.press = 1 := by
  by_contra hstop
  rw [tick_drv, if_neg hstop, hdriving, Bool.or_true, ite_self] at hidle
  exact Bool.noConfusion hidle

/-- Of the pins RESET alone writes DRV. -/
theorem rst_of_pin_drv {p : Pin} {s : State} (hdriving : s.drv = true) (hidle : (effect p.instr s).drv = false) :
    p = .rst := by
  cases p with
  | rst => rfl
  | _ => exact absurd (hdriving.symm.trans hidle) Bool.noConfusion

/-- Of the served operations (R108) EDGE_A never ends Driving, and TICK only by a D_STOP. -/
theorem source_of_served_drv {x : Source} {s : State} (hdriving : s.drv = true)
    (hidle : (effect (decodeOp (opCode (some x))) s).drv = false) :
    x = .b ∨ (x = .t ∧ s.cool = 0 ∧ s.press = 1) := by
  rw [decodeOp_opCode] at hidle
  cases x with
  | t => exact .inr ⟨rfl, stop_dispatched_of_tick_drv hdriving hidle⟩
  | a => exact absurd (hdriving.symm.trans ((edgeA_drv s).symm.trans hidle)) Bool.noConfusion
  | b => exact .inl rfl

/-- Settles O42: the events of R105, one by one; idling and the hold write no register. -/
theorem drivingEndsOnlyByAStop : Obligations.DrivingEndsOnlyByAStop := by
  intro s t hstep hdriving hidle
  rw [← useTurn_drv s] at hdriving
  rw [← useTurn_cool s, ← useTurn_press s]
  obtain ⟨-, ⟨p, he, -, rfl⟩ | ⟨x, n, he, -, -, -, rfl⟩ | ⟨-, -, -, rfl⟩ | ⟨-, -, rfl⟩⟩ := step_cases hstep
  · exact .inr (.inr (rst_of_pin_drv hdriving hidle ▸ he))
  · rw [setIe_drv] at hidle
    obtain rfl | ⟨rfl, hstop⟩ :=
      source_of_served_drv (s := setIe false (setPend x false { useTurn s with freeIdx := n })) hdriving hidle
    · exact .inl he
    · exact .inr (.inl ⟨he, hstop⟩)
  · exact absurd (hdriving.symm.trans hidle) Bool.noConfusion
  · exact absurd (hdriving.symm.trans hidle) Bool.noConfusion

end Sys2Proof.Machine
end

section
/-! PROOFS. The family of 43_debounce_dispatch.md: EDGE_A (R80, R83), phase DEB (R84), DISPATCH and its actions (R86 to R91), and the
window's course along a trace (R81, R82, R85, R87). -/

namespace Sys2Proof.Machine

/-! EDGE_A by its comparison (R80). -/

theorem acceptOf_iff (s : State) : acceptOf s = true ↔ s.cool < s.cfg.top - s.cfg.guard := decide_eq_true_iff

theorem edgeA_effect_of_accepted {s : State} (h : acceptOf s = true) : effect .edgeA s =
    clearSignals { s with press := satInc s.cfg s.press, cool := s.cfg.top } := by
  simp only [edgeA_effect, h, if_true, clearSignals]

theorem edgeA_effect_of_rejected {s : State} (h : acceptOf s = false) : effect .edgeA s = clearSignals s := by
  simp only [edgeA_effect, h, Bool.false_eq_true, if_false, clearSignals]

/-- Settles O4: at rest there is no signal to clear, so an accepted edge writes PRESS and COOL alone and a rejected one
nothing. -/
theorem edgeAAcceptsBelowThreshold : Obligations.EdgeAAcceptsBelowThreshold := by
  refine ⟨rfl, fun s hwf hrest => ?_⟩
  rw [exec_of_wf .edgeA hwf]
  refine ⟨fun hbelow => ?accepted, fun habove => ?rejected⟩
  case accepted =>
    rw [edgeA_effect_of_accepted ((acceptOf_iff s).mpr hbelow)]
    exact congrArg _ (clearSignals_of_atRest hrest)
  case rejected =>
    have hreject : acceptOf s = false := decide_eq_false habove.not_gt
    rw [edgeA_effect_of_rejected hreject, clearSignals_of_atRest hrest]

/-- After an edge the next is rejected: an accepted one has reloaded COOL to TOP, a rejected one has left COOL alone. -/
theorem acceptOf_edgeA (s : State) : acceptOf (effect .edgeA s) = false := by
  cases h : acceptOf s with
  | true =>
    rw [edgeA_effect_of_accepted h]
    exact decide_eq_false (Nat.sub_le _ _).not_gt
  | false =>
    rw [edgeA_effect_of_rejected h]
    exact h

/-- Settles O44: a second EDGE_A is rejected and finds no signal to clear; EDGE_B writes the same values again. -/
theorem edgesAreIdempotent : Obligations.EdgesAreIdempotent := by
  refine fun s t => ⟨fun hexec => ?edgeA, fun hexec => ?edgeB⟩ <;> obtain ⟨hwf, rfl⟩ := exec_eq_next.mp hexec
  · exact exec_eq_next.mpr ⟨by rwa [effect_cfg], (edgeA_effect_of_rejected (acceptOf_edgeA s)).symm⟩
  · exact exec_eq_next.mpr ⟨hwf, rfl⟩

/-! Phase DEB by COOL and PRESS at its start (R84). -/

theorem fireOf_iff (s : State) : fireOf s = true ↔ s.cool = 0 ∧ 0 < s.press := by
  rw [fireOf, Bool.and_eq_true, beq_iff_eq, decide_eq_true_eq]

theorem deb_effect_of_open {s : State} (hcool : 0 < s.cool) :
    effect .deb s = { s with cool := s.cool - 1, fire := false } := by
  have hfire : fireOf s = false := Bool.eq_false_iff.mpr fun h => hcool.ne' ((fireOf_iff s).mp h).1
  rw [effect, debPhase, hfire]
  exact if_pos hcool

theorem deb_effect_of_drained {s : State} (hcool : s.cool = 0) :
    effect .deb s = if fireOf s then dispatchOp (setFire (fireOf s) s) else setFire (fireOf s) s :=
  if_neg (hcool ▸ Nat.not_lt_zero 0)

/-- Settles O10: the test on COOL, and with the window drained the test on `fire`. -/
theorem debCountsDownOrDispatches : Obligations.DebCountsDownOrDispatches := by
  refine ⟨rfl, fun s hwf => ?_⟩
  rw [exec_of_wf .deb hwf]
  refine ⟨fun hopen => congrArg _ (deb_effect_of_open hopen), fun hdrained hpress => ?dispatches,
    fun hdrained hpress => ?nothing⟩
  case dispatches =>
    have hfire : fireOf s = true := (fireOf_iff s).mpr ⟨hdrained, hpress⟩
    rw [deb_effect_of_drained hdrained, hfire]
    exact ⟨_, exec_of_wf .dispatch hwf, rfl⟩
  case nothing =>
    have hfire : fireOf s = false := Bool.eq_false_iff.mpr fun h => ((fireOf_iff s).mp h).2.ne' hpress
    rw [deb_effect_of_drained hdrained, hfire]
    rfl

/-! DISPATCH and the actions (R86 to R91). -/

theorem dispatch_effect_of_select {s : State} {act : Action} (h : selectAction s.press = act) :
    effect .dispatch s = setPress 0 (runAction act s) := by
  rw [effect, dispatchOp, h]

/-- Settles O11: each count's action, then the clearing of PRESS. -/
theorem dispatchRunsSelectedActionAndClears : Obligations.DispatchRunsSelectedActionAndClears := by
  intro s hwf
  rw [exec_of_wf .dispatch hwf]
  exact ⟨fun hstop => congrArg _ (dispatch_effect_of_select (act := .dStop) (by rw [hstop]; rfl)),
    fun hreset => congrArg _ (dispatch_effect_of_select (act := .dReset) (by rw [hreset]; rfl)),
    fun hspin => congrArg _ (dispatch_effect_of_select (act := .dSpin) (by rw [hspin]; rfl)),
    fun h1 h2 h3 => congrArg _ (dispatch_effect_of_select (selectAction_eq_dNop_iff.mpr ⟨h1, h2, h3⟩))⟩

/-- A selector of three bits fits every legal width of PRESS, those of D_STOP, D_RESET and D_SPIN among them (R45). -/
theorem decode_ds_of_lt_eight {pressW sel : Nat} (hw : 3 ≤ pressW) (hsel : sel < 8) :
    decode pressW { format := .ds, bits := sel } = .ok ((selectAction sel).instr sel) :=
  decode_of_fits (Laws.CodeFits.ds_fits hw hsel)

theorem tick_drv_of_stop {s : State} (hcool : s.cool = 0) (hpress : s.press = 1) : (effect .tick s).drv = false := by
  rw [tick_drv, if_pos ⟨hcool, hpress⟩]

theorem tick_drv_of_spin {s : State} (hcool : s.cool = 0) (hpress : s.press = 3) : (effect .tick s).drv = true := by
  rw [tick_drv, if_neg (by omega), if_pos ⟨hcool, hpress⟩]

/-- Settles O12: within a TICK phase DEB comes after AUTO, so D_STOP writes DRV last. -/
theorem dStopIdlesActuator : Obligations.DStopIdlesActuator :=
  ⟨fun _ hw => decode_ds_of_lt_eight hw (by decide), fun _ hwf => ⟨exec_of_wf .dStop hwf, fun hcool hpress =>
    ⟨_, exec_of_wf .tick hwf, tick_drv_of_stop hcool hpress⟩⟩⟩

/-- Settles O13: D_RESET is one write. -/
theorem dResetClearsElapsedOnly : Obligations.DResetClearsElapsedOnly :=
  ⟨fun _ hw => decode_ds_of_lt_eight hw (by decide), fun _ hwf => exec_of_wf .dReset hwf⟩

theorem actuator_of_drv_eq {s : State} {d : Bool} (h : s.drv = d) : actuator d s = s := by
  rw [actuator, ← h]

/-- Settles O14: D_SPIN is one write, from Driving of the value DRV has. -/
theorem dSpinDrivesActuator : Obligations.DSpinDrivesActuator :=
  ⟨fun _ hw => decode_ds_of_lt_eight hw (by decide), fun _ hwf => ⟨exec_of_wf .dSpin hwf, fun hdriving =>
    (exec_of_wf .dSpin hwf).trans (congrArg _ (actuator_of_drv_eq hdriving))⟩⟩

/-- Settles O15: the last arm of the selection (R92), in the decoder and in DISPATCH. -/
theorem dNopOnlyLetsPressClear : Obligations.DNopOnlyLetsPressClear := by
  intro sel s h1 h2 h3 hwf
  have hsel : selectAction sel = .dNop := selectAction_eq_dNop_iff.mpr ⟨h1, h2, h3⟩
  refine ⟨fun hfits => ?decodes, exec_of_wf (.dNop sel) hwf, ?clears⟩
  case decodes =>
    rw [decode_of_fits (fits_iff.mpr hfits), CodeWord.operation, hsel]
    rfl
  case clears =>
    exact (exec_of_wf .dispatch (s := setPress sel s) hwf).trans
      (congrArg _ (dispatch_effect_of_select (s := setPress sel s) (act := .dNop) hsel))

/-! A trace under a well-formed configuration runs to its end, and what each of its operations keeps holds there (R52). -/

theorem exists_runTrace (tr : List Letter) {s : State} (hwf : s.cfg.wf = true) : ∃ t, runTrace tr s = .next t := by
  induction tr generalizing s with
  | nil => exact ⟨s, rfl⟩
  | cons l tr ih =>
    rw [runTrace_cons _ _ hwf]
    exact ih (by rwa [effect_cfg])

theorem runTrace_keeps {P : State → Prop} {tr : List Letter} {s t : State} (hwf : s.cfg.wf = true)
    (hrun : runTrace tr s = .next t) (hkeep : ∀ l ∈ tr, ∀ u, P u → P (effect l.instr u)) (h : P s) : P t := by
  induction tr generalizing s with
  | nil =>
    cases hrun
    exact h
  | cons l tr ih =>
    rw [runTrace_cons _ _ hwf] at hrun
    exact ih (by rwa [effect_cfg]) hrun (fun x hx => hkeep x (List.mem_cons_of_mem l hx))
      (hkeep l List.mem_cons_self s h)

theorem runTrace_cfg {tr : List Letter} {s t : State} (hwf : s.cfg.wf = true) (hrun : runTrace tr s = .next t) :
    t.cfg = s.cfg :=
  runTrace_keeps (P := fun u => u.cfg = s.cfg) hwf hrun (fun l _ u hu => (effect_cfg l.instr u).trans hu) rfl

/-- Every operation that runs a handler clears the signals at its end (R18), and IDLE changes nothing. -/
theorem clearSignals_effect_letter (l : Letter) {s : State} (h : clearSignals s = s) :
    clearSignals (effect l.instr s) = effect l.instr s := by
  cases l with
  | i => exact h
  | t | a | b => rfl

theorem clearSignals_of_runTrace {tr : List Letter} {s t : State} (hwf : s.cfg.wf = true)
    (hrun : runTrace tr s = .next t) : clearSignals s = s → clearSignals t = t :=
  runTrace_keeps (P := fun u => clearSignals u = u) hwf hrun fun l _ _ => clearSignals_effect_letter l

/-! The drained window (R87). -/

theorem tick_cool (s : State) : (effect .tick s).cool = s.cool - 1 := by
  rw [tick_effect]

/-- With the window drained and no count waiting, every operation but EDGE_A leaves both so. -/
theorem effect_letter_drained {l : Letter} {s : State} (hl : l ≠ .a) (h : s.cool = 0 ∧ s.press = 0) :
    (effect l.instr s).cool = 0 ∧ (effect l.instr s).press = 0 := by
  obtain ⟨hcool, hpress⟩ := h
  cases l with
  | t => exact ⟨by rw [Letter.instr, tick_cool, hcool], tick_press_of_drained hcool⟩
  | a => exact absurd rfl hl
  | i | b => exact ⟨hcool, hpress⟩

/-- With no count waiting nothing is dispatched, so of the operations EDGE_B alone ends Driving (R78). -/
theorem effect_letter_drv_of_no_press {l : Letter} {s : State} (hl : l ≠ .b) (hpress : s.press = 0)
    (hdriving : s.drv = true) : (effect l.instr s).drv = true := by
  cases l with
  | t =>
    by_contra hidle
    obtain ⟨-, hstop⟩ := stop_dispatched_of_tick_drv hdriving (Bool.eq_false_iff.mpr hidle)
    omega
  | b => exact absurd rfl hl
  | a => exact (edgeA_drv s).trans hdriving
  | i => exact hdriving

/-- Settles O51: each operation of the trace keeps the drained window, and with it Driving. -/
theorem dispatchOncePerWindow : Obligations.DispatchOncePerWindow := by
  intro tr s hwf ha hcool hpress
  obtain ⟨t, hrun⟩ := exists_runTrace tr hwf
  have hla : ∀ l ∈ tr, l ≠ .a := fun _ hl => ne_of_mem_of_not_mem hl ha
  obtain ⟨htcool, htpress⟩ := runTrace_keeps (P := fun u => u.cool = 0 ∧ u.press = 0) hwf hrun
    (fun l hl _ => effect_letter_drained (hla l hl)) ⟨hcool, hpress⟩
  refine ⟨t, hrun, htcool, htpress, fun hdriving hb => ?_⟩
  have hlb : ∀ l ∈ tr, l ≠ .b := fun _ hl => ne_of_mem_of_not_mem hl hb
  exact (runTrace_keeps (P := fun u => (u.cool = 0 ∧ u.press = 0) ∧ u.drv = true) hwf hrun
    (fun l hl _ ⟨⟨hucool, hupress⟩, hudriving⟩ => ⟨effect_letter_drained (hla l hl) ⟨hucool, hupress⟩,
      effect_letter_drv_of_no_press (hlb l hl) hupress hudriving⟩) ⟨⟨hcool, hpress⟩, hdriving⟩).2

/-! The window that drains and dispatches (R85). -/

/-- COOL + 1 TICKs are the countdown and then one TICK with the window drained and the count as it was. -/
theorem runTrace_ticks_cool_succ {s : State} (hwf : s.cfg.wf = true) :
    ∃ u, runTrace (ticks (s.cool + 1)) s = .next (effect .tick u) ∧ u.cfg = s.cfg ∧ u.cool = 0 ∧ u.press = s.press := by
  obtain ⟨u, hrun, hcfg, hcool, hpress⟩ := runTrace_ticks_of_le_cool hwf (le_refl s.cool)
  refine ⟨u, ?_, hcfg, by omega, hpress⟩
  rw [ticks_add, runTrace_append hrun]
  exact runTrace_cons .t [] (by rwa [hcfg])

/-- Settles O49: the countdown first, then the dispatch of the TICK that finds the window drained. -/
theorem windowDrainsThenDispatches : Obligations.WindowDrainsThenDispatches := by
  intro s hwf _
  refine ⟨fun n hn => ?countdown, ?dispatch⟩
  case countdown =>
    obtain ⟨t, hrun, -, hcool, hpress⟩ := runTrace_ticks_of_le_cool hwf hn
    exact ⟨t, hrun, hcool, hpress⟩
  case dispatch =>
    obtain ⟨u, hrun, -, hcool, hpress⟩ := runTrace_ticks_cool_succ hwf
    rw [← hpress]
    exact ⟨_, hrun, by rw [tick_cool, hcool], tick_press_of_drained hcool, tick_drv_of_stop hcool,
      fun hreset => tick_elapsed_of_resetDue ⟨hcool, hreset⟩, tick_drv_of_spin hcool⟩

/-! A further edge, by the ticks since the last accepted one (R81). -/

/-- A window that any number of TICKs follow: the count stands until it has drained, and once dispatched nothing is left. -/
theorem runTrace_ticks_window (n : Nat) {s : State} (hwf : s.cfg.wf = true) :
    ∃ t, runTrace (ticks n) s = .next t ∧ t.cfg = s.cfg ∧ t.cool = s.cool - n ∧
      t.press = if n ≤ s.cool then s.press else 0 := by
  by_cases hn : n ≤ s.cool
  · rw [if_pos hn]
    exact runTrace_ticks_of_le_cool hwf hn
  · obtain ⟨u, hrun, hcfg, hcool, -⟩ := runTrace_ticks_cool_succ hwf
    have hsplit : n = s.cool + 1 + (n - (s.cool + 1)) := by omega
    have hnoA : Letter.a ∉ ticks (n - (s.cool + 1)) := fun h => Letter.noConfusion (List.eq_of_mem_replicate h)
    obtain ⟨t, hrest, htcool, htpress, -⟩ := dispatchOncePerWindow _ (effect .tick u) (by rwa [effect_cfg, hcfg]) hnoA
      (by rw [tick_cool, hcool]) (tick_press_of_drained hcool)
    have htrun : runTrace (ticks n) s = .next t := by rw [hsplit, ticks_add, runTrace_append hrun, hrest]
    exact ⟨t, htrun, runTrace_cfg hwf htrun, by omega, htpress.trans (if_neg hn).symm⟩

/-- THRESH against the countdown: the comparison is the gap's against GUARD. -/
theorem acceptOf_iff_of_gap {s : State} {g : Nat} (hwf : s.cfg.wf = true) (hcool : s.cool = s.cfg.top - g) :
    acceptOf s = true ↔ s.cfg.guard < g := by
  obtain ⟨-, -, -, hguard, -⟩ := (Config.wf_iff s.cfg).mp hwf
  rw [acceptOf_iff]
  omega

theorem edgeA_registers_of_accepted {s : State} (h : acceptOf s = true) :
    (effect .edgeA s).cool = s.cfg.top ∧ (effect .edgeA s).press = satInc s.cfg s.press := by
  rw [edgeA_effect_of_accepted h]
  exact ⟨rfl, rfl⟩

theorem satInc_zero {c : Config} (h : c.wf = true) : satInc c 0 = 1 := if_pos (pressMax_pos h)

/-- Settles O50: the window that the accepted edge opens, and at its end the comparison with THRESH. -/
theorem acceptanceByGap : Obligations.AcceptanceByGap := by
  intro s u g hbelow hexec
  obtain ⟨hwf, rfl⟩ := exec_eq_next.mp hexec
  have hucool : (effect .edgeA s).cool = s.cfg.top := (edgeA_registers_of_accepted ((acceptOf_iff s).mpr hbelow)).1
  have huwf : (effect .edgeA s).cfg.wf = true := by rwa [effect_cfg]
  obtain ⟨t, hrun, hcfg, hcool, hpress⟩ := runTrace_ticks_window g huwf
  rw [effect_cfg] at hcfg
  rw [hucool] at hcool hpress
  rw [← hcfg] at hwf hcool hpress ⊢
  have hgap : acceptOf t = true ↔ t.cfg.guard < g := acceptOf_iff_of_gap hwf hcool
  refine ⟨t, effect .edgeA t, hrun, exec_of_wf .edgeA hwf, hcool, fun hg => ?rejected, fun hg => ?reloaded,
    fun hg hopen => ?counted, fun hdrained => ?restarted⟩
  case rejected =>
    have hreject : acceptOf t = false := Bool.eq_false_iff.mpr (mt hgap.mp hg.not_gt)
    rw [edgeA_effect_of_rejected hreject]
    exact clearSignals_of_runTrace huwf hrun rfl
  case reloaded => exact (edgeA_registers_of_accepted (hgap.mpr hg)).1
  case counted => rw [(edgeA_registers_of_accepted (hgap.mpr hg)).2, hpress, if_pos hopen]
  case restarted =>
    obtain ⟨-, -, -, hguard, -⟩ := (Config.wf_iff t.cfg).mp hwf
    rw [(edgeA_registers_of_accepted (hgap.mpr (hguard.trans hdrained))).2, hpress, if_neg hdrained.not_ge,
      satInc_zero hwf]

/-! A narrower PRESS (R82). -/

/-- The same state with PRESS on `w` bits, its count saturated at their ceiling. -/
def narrow (w : Nat) (u : State) : State :=
  { u with cfg := { u.cfg with pressW := w }, press := min u.press (2 ^ w - 1) }

theorem saturatedTwin_iff {s u : State} : s.SaturatedTwin u ↔ ∃ w, w ≤ u.cfg.pressW ∧ s = narrow w u := by
  refine ⟨fun ⟨hw, htwin⟩ => ⟨s.cfg.pressW, hw, htwin⟩, ?_⟩
  rintro ⟨w, hw, rfl⟩
  exact ⟨hw, rfl⟩

/-- Saturation hides no count that selects an action: these are below every legal ceiling. -/
theorem narrow_press_eq_iff {w sel : Nat} (hw : 3 ≤ w) (hsel : sel < 4) (u : State) :
    (narrow w u).press = sel ↔ u.press = sel := by
  have hpow : 2 ^ 3 ≤ 2 ^ w := Nat.pow_le_pow_right (by decide) hw
  simp only [narrow]
  omega

theorem satInc_min {c d : Config} (h : c.pressMax ≤ d.pressMax) (v : Nat) :
    satInc c (min v c.pressMax) = min (satInc d v) c.pressMax := by
  unfold satInc
  split <;> split <;> omega

/-- TICK: the same actions are selected, and a count cleared or kept is so on either width. -/
theorem tick_narrow {w : Nat} (hw : 3 ≤ w) (u : State) : effect .tick (narrow w u) = narrow w (effect .tick u) := by
  have hpress : (if u.cool = 0 then 0 else min u.press (2 ^ w - 1)) =
      min (if u.cool = 0 then 0 else u.press) (2 ^ w - 1) := by
    rw [apply_ite (min · (2 ^ w - 1)), Nat.zero_min]
  have hselects (sel : Nat) (hsel : sel < 4) := narrow_press_eq_iff hw hsel u
  simp only [tick_effect, hselects 1 (by decide), hselects 2 (by decide), hselects 3 (by decide)]
  simp only [narrow, ← hpress]
  rfl

/-- EDGE_A: the acceptance does not read PRESS, and counting saturates at either ceiling. -/
theorem edgeA_narrow {w : Nat} {u : State} (hw : w ≤ u.cfg.pressW) :
    effect .edgeA (narrow w u) = narrow w (effect .edgeA u) := by
  have hceil : (narrow w u).cfg.pressMax ≤ u.cfg.pressMax :=
    Nat.sub_le_sub_right (Nat.pow_le_pow_right Nat.two_pos hw) 1
  cases haccept : acceptOf u with
  | true =>
    have hpress : satInc (narrow w u).cfg (narrow w u).press = min (satInc u.cfg u.press) (2 ^ w - 1) :=
      satInc_min hceil u.press
    rw [edgeA_effect_of_accepted haccept, edgeA_effect_of_accepted (s := narrow w u) haccept, hpress]
    rfl
  | false =>
    rw [edgeA_effect_of_rejected haccept, edgeA_effect_of_rejected (s := narrow w u) haccept]
    rfl

/-- The commuting diagram: an operation and then the narrowing is the narrowing and then the operation. -/
theorem effect_letter_narrow (l : Letter) {w : Nat} {u : State} (hlegal : 3 ≤ w) (hw : w ≤ u.cfg.pressW) :
    effect l.instr (narrow w u) = narrow w (effect l.instr u) := by
  cases l with
  | t => exact tick_narrow hlegal u
  | a => exact edgeA_narrow hw
  | i | b => rfl

theorem runTrace_narrow {tr : List Letter} {w : Nat} {u u' : State} (hlegal : 3 ≤ w) (hw : w ≤ u.cfg.pressW)
    (hwf : u.cfg.wf = true) (hwf' : (narrow w u).cfg.wf = true) (hrun : runTrace tr u = .next u') :
    runTrace tr (narrow w u) = .next (narrow w u') := by
  induction tr generalizing u with
  | nil =>
    cases hrun
    rfl
  | cons l tr ih =>
    rw [runTrace_cons _ _ hwf] at hrun
    rw [runTrace_cons _ _ hwf', effect_letter_narrow l hlegal hw]
    have hcfg : (narrow w (effect l.instr u)).cfg = (narrow w u).cfg := by simp only [narrow, effect_cfg]
    exact ih (by rwa [effect_cfg]) (by rwa [effect_cfg]) (by rwa [hcfg]) hrun

/-- Settles O53: the twin is the wider machine narrowed, before the trace and after it. -/
theorem saturationIsInvisible : Obligations.SaturationIsInvisible := by
  intro tr s u hwf huwf htwin
  obtain ⟨w, hw, rfl⟩ := saturatedTwin_iff.mp htwin
  obtain ⟨-, -, -, -, -, -, -, hlegal, -⟩ := (Config.wf_iff _).mp hwf
  obtain ⟨u', hrun⟩ := exists_runTrace tr huwf
  exact ⟨narrow w u', u', runTrace_narrow hlegal hw huwf hwf hrun, hrun,
    saturatedTwin_iff.mpr ⟨w, by rwa [runTrace_cfg huwf hrun], rfl⟩⟩

end Sys2Proof.Machine
end

section
/-! PROOFS. The family of 44_stop_and_idle.md: EDGE_B (R95), what a stop edge does not cancel (R96), and IDLE (R97). -/

namespace Sys2Proof.Machine

/-- Settles O1: IDLE's effect is the identity. -/
theorem idleChangesNothing : Obligations.IdleChangesNothing :=
  ⟨rfl, fun _ hwf => exec_of_wf .idle hwf⟩

theorem edgeB_effect_eq_actuator (s : State) : effect .edgeB s = actuator false (clearSignals s) := rfl

/-- At rest there is no signal to clear, and EDGE_B is the one write of R95. -/
theorem edgeB_effect_of_atRest {s : State} (h : s.AtRest) : effect .edgeB s = { s with drv := false } := by
  rw [edgeB_effect_eq_actuator, clearSignals_of_atRest h, actuator]

/-- Settles O5: at rest EDGE_B is one write, and idempotent as in any state. -/
theorem edgeBForcesIdle : Obligations.EdgeBForcesIdle := by
  refine ⟨rfl, fun s hwf hrest => ?_⟩
  have hexec : exec .edgeB s = .next { s with drv := false } := by
    rw [exec_of_wf .edgeB hwf, edgeB_effect_of_atRest hrest]
  exact ⟨hexec, (edgesAreIdempotent s _).2 hexec, actOut_of_idle (s := { s with drv := false }) rfl⟩

/-- Unless the TICK dispatches D_STOP, AUTO's write on cycle complete stands (R77). -/
theorem tick_drv_of_cycle {s : State} (hcycle : cycleCompleteOf s = true) (hstop : ¬ (s.cool = 0 ∧ s.press = 1)) :
    (effect .tick s).drv = true := by
  rw [tick_drv, if_neg hstop, hcycle, Bool.true_or, ite_self]

/-- Settles O43: EDGE_B leaves the window, the count and the time base alone, and these decide the next TICK's drive. -/
theorem stopEdgeCancelsNothing : Obligations.StopEdgeCancelsNothing := by
  intro s u hexec hdue
  obtain ⟨hwf, rfl⟩ := exec_eq_next.mp hexec
  have huwf : (effect .edgeB s).cfg.wf = true := by rwa [effect_cfg]
  refine ⟨rfl, _, exec_of_wf .tick huwf, ?_⟩
  obtain ⟨hcool, hspin⟩ | ⟨htick, helapsed, hstop⟩ := hdue
  · exact tick_drv_of_spin hcool hspin
  · exact tick_drv_of_cycle ((cycleCompleteOf_iff _).mpr ⟨htick, helapsed⟩) hstop

end Sys2Proof.Machine
end

section
/-! PROOFS. The family of 60_exceptions.md: notifications and their latches (R106, R107), the arbiter (R109, R110, R114), serving
(R105, R108, R111, R112), and the runs of R105 with the weak fairness of R115. -/

namespace Sys2Proof

/-- The trace letter of a source (R43, R104). -/
def Source.letter : Source → Letter
  | .t => .t
  | .a => .a
  | .b => .b

/-- The fixed routing of R108, through the OP code. -/
theorem decodeOp_opCode_eq_letter (x : Source) : decodeOp (opCode (some x)) = x.letter.instr := by
  cases x <;> rfl

@[simp] theorem letter_serve (x : Source) : (Event.serve x).letter = some x.letter := by
  cases x <;> rfl

theorem Letter.eq_i_or_source (l : Letter) : l = .i ∨ ∃ x : Source, l = x.letter := by
  cases l with
  | i => exact .inl rfl
  | t => exact .inr ⟨.t, rfl⟩
  | a => exact .inr ⟨.a, rfl⟩
  | b => exact .inr ⟨.b, rfl⟩

/-- A total order of the three sources leaves none out (R5). -/
theorem Source.mem_total_order {p q r : Source} (hpq : p ≠ q) (hpr : p ≠ r) (hqr : q ≠ r) (x : Source) :
    x = p ∨ x = q ∨ x = r := by
  cases p <;> cases q <;> cases r <;> cases x <;> simp_all

theorem opCode_eq_zero_iff {g : Option Source} : opCode g = 0b00#2 ↔ g = none := by
  cases g with
  | none => simp [opCode]
  | some x => cases x <;> simp [opCode]

end Sys2Proof

namespace Sys2Proof.Machine

/-! Writes to the collator: what they find, and the operations they may change places with. -/

theorem setPend_of_pend_eq {s : State} {x : Source} {b : Bool} (h : pend s x = b) : setPend x b s = s := by
  subst h
  cases x <;> rfl

@[simp] theorem pend_setIe (b : Bool) (s : State) (x : Source) : pend (setIe b s) x = pend s x := by
  cases x <;> rfl

@[simp] theorem pend_useTurn (s : State) (x : Source) : pend (useTurn s) x = pend s x := by
  simp [pend]

@[simp] theorem pend_setAgenda (ts : List Turn) (s : State) (x : Source) : pend (setAgenda ts s) x = pend s x := by
  cases x <;> rfl

theorem setIe_of_ie_eq {s : State} {b : Bool} (h : s.ie = b) : setIe b s = s := by
  rw [setIe, ← h]

theorem setPend_setPend (x : Source) (b c : Bool) (s : State) : setPend x b (setPend x c s) = setPend x b s := by
  cases x <;> rfl

theorem effect_letter_setIe (l : Letter) (b : Bool) (s : State) :
    effect l.instr (setIe b s) = setIe b (effect l.instr s) := by
  cases l with
  | t => simp only [Letter.instr, tick_effect]; rfl
  | a => simp only [Letter.instr, edgeA_effect]; rfl
  | i | b => rfl

theorem effect_letter_setAgenda (l : Letter) (ts : List Turn) (s : State) :
    effect l.instr (setAgenda ts s) = setAgenda ts (effect l.instr s) := by
  cases l with
  | t => simp only [Letter.instr, tick_effect]; rfl
  | a => simp only [Letter.instr, edgeA_effect]; rfl
  | i | b => rfl

theorem effect_pin_setAgenda (p : Pin) (ts : List Turn) (s : State) :
    effect p.instr (setAgenda ts s) = setAgenda ts (effect p.instr s) := by
  cases p <;> rfl

/-- No operation of a trace writes the collator (R20, R21). -/
theorem effect_letter_sameCollator (l : Letter) (s : State) : s.SameCollator (effect l.instr s) := by
  cases l with
  | t => rw [Letter.instr, tick_effect]; exact ⟨rfl, rfl, rfl, rfl, rfl, rfl, rfl, rfl⟩
  | a => rw [Letter.instr, edgeA_effect]; exact ⟨rfl, rfl, rfl, rfl, rfl, rfl, rfl, rfl⟩
  | i | b => exact ⟨rfl, rfl, rfl, rfl, rfl, rfl, rfl, rfl⟩

@[simp] theorem effect_letter_ie (l : Letter) (s : State) : (effect l.instr s).ie = s.ie := by
  obtain ⟨-, -, -, -, hie, -⟩ := effect_letter_sameCollator l s
  exact hie

@[simp] theorem effect_letter_pend (l : Letter) (s : State) (x : Source) : pend (effect l.instr s) x = pend s x := by
  obtain ⟨-, ht, ha, hb, -⟩ := effect_letter_sameCollator l s
  cases x with
  | t => exact ht
  | a => exact ha
  | b => exact hb

theorem effect_notify (x : Source) (s : State) : effect x.notify s = setPend x true s := by
  cases x <;> rfl

theorem exec_notify (x : Source) {s : State} (hwf : s.cfg.wf = true) :
    exec x.notify s = .next (setPend x true s) ∧ (pend s x = true → exec x.notify s = .next s) := by
  rw [exec_of_wf _ hwf, effect_notify]
  exact ⟨rfl, fun hset => congrArg _ (setPend_of_pend_eq hset)⟩

/-- Settles O19: each notification is one write, of the value the latch has when it is set already. -/
theorem notifySetsItsLatchOnly : Obligations.NotifySetsItsLatchOnly :=
  fun _ hwf => ⟨exec_notify .t hwf, exec_notify .a hwf, exec_notify .b hwf⟩

/-- Settles O45: EDGE_A reads and writes PRESS and COOL, EDGE_B writes DRV. -/
theorem edgesCommute : Obligations.EdgesCommute := by
  intro s hwf
  have hcommute : effect .edgeA (effect .edgeB s) = effect .edgeB (effect .edgeA s) := by
    simp only [edgeA_effect, edgeB_effect]
    rfl
  refine ⟨effect .edgeB (effect .edgeA s), ?_, ?_⟩
  · rw [runTrace_cons _ _ hwf, runTrace_cons _ _ (by rwa [effect_cfg])]
    rfl
  · rw [runTrace_cons _ _ hwf, runTrace_cons _ _ (by rwa [effect_cfg]), ← hcommute]
    rfl

/-! The arbiter (R109). -/

theorem arbAllows_iff {s : State} {x : Source} :
    arbAllows s x = true ↔ ∀ y ∈ higher s.cfg.arb x, pend s y = false := by
  simp [arbAllows]

theorem mem_candidates {s : State} {x : Source} :
    x ∈ candidates s ↔ pend s x = true ∧ arbAllows s x = true := by
  rw [candidates, List.mem_filter, Bool.and_eq_true, and_iff_right]
  cases x <;> decide

theorem higher_second {p q r : Source} (hpq : p ≠ q) : higher (.order p q r) q = [p] := by
  simp [higher, hpq.symm]

theorem higher_third {p q r : Source} (hpr : p ≠ r) (hqr : q ≠ r) : higher (.order p q r) r = [p, q] := by
  simp [higher, hpr.symm, hqr.symm]

theorem arb_ne {s : State} {p q r : Source} (hwf : s.cfg.wf = true) (harb : s.cfg.arb = .order p q r) :
    p ≠ q ∧ p ≠ r ∧ q ≠ r := by
  obtain ⟨-, -, -, -, -, -, -, -, hwfArb⟩ := (Config.wf_iff _).mp hwf
  exact (Arb.wf_iff _).mp hwfArb p q r harb

/-- A source that a total order allows has none before it pending (R109). -/
theorem pend_eq_false_of_arbAllows {s : State} {p q r x : Source} (hwf : s.cfg.wf = true)
    (harb : s.cfg.arb = .order p q r) (h : arbAllows s x = true) :
    (x = q → pend s p = false) ∧ (x = r → pend s p = false ∧ pend s q = false) := by
  obtain ⟨hpq, hpr, hqr⟩ := arb_ne hwf harb
  rw [arbAllows_iff, harb] at h
  constructor
  · rintro rfl
    rw [higher_second hpq] at h
    exact h p (by simp)
  · rintro rfl
    rw [higher_third hpr hqr] at h
    exact ⟨h p (by simp), h q (by simp)⟩

theorem forall_pend_eq_false_iff {s : State} :
    (∀ x, pend s x = false) ↔ s.pendT = false ∧ s.pendA = false ∧ s.pendB = false := by
  refine ⟨fun h => ⟨h .t, h .a, h .b⟩, fun ⟨ht, ha, hb⟩ x => ?_⟩
  cases x with
  | t => exact ht
  | a => exact ha
  | b => exact hb

theorem idleEnabled_iff {s : State} : idleEnabled s = true ↔ s.ie = true ∧ ∀ x, pend s x = false := by
  rw [forall_pend_eq_false_iff]
  simp only [idleEnabled, Bool.and_eq_true, Bool.not_eq_true', and_assoc]

/-- Settles O23: the next event is enabled, which is what R105 asks of serve and of idle. -/
theorem servedOnlyWhenEnabled : Obligations.ServedOnlyWhenEnabled := by
  intro s hwf
  have henabled := nextEvent_enabled hwf
  refine ⟨fun x he => ?serve, fun he => ?idle⟩ <;> rw [he] at henabled
  case serve =>
    simp only [eventEnabled, serveEnabled, Bool.and_eq_true, and_assoc] at henabled
    obtain ⟨hie, hpend, hallows⟩ := henabled
    exact ⟨hie, hpend, fun _ _ _ harb => pend_eq_false_of_arbAllows hwf harb hallows⟩
  case idle =>
    obtain ⟨hie, hclear⟩ := idleEnabled_iff.mp henabled
    exact ⟨hie, hclear .t, hclear .a, hclear .b⟩

theorem grant_eq_none_iff {s : State} (hwf : s.cfg.wf = true) : grant s = none ↔ ∀ x, pend s x = false := by
  rw [grant_eq_none hwf, forall_pend_eq_false_iff]

theorem grant_of_order {s : State} {p q r : Source} (hwf : s.cfg.wf = true) (harb : s.cfg.arb = .order p q r) :
    grant s = if pend s p then some p else if pend s q then some q else if pend s r then some r else none := by
  cases hgrant : grant s with
  | none =>
    have hclear := (grant_eq_none_iff hwf).mp hgrant
    simp [hclear]
  | some x =>
    obtain ⟨hpend, hallows⟩ := grant_enabled hgrant
    obtain ⟨hsecond, hthird⟩ := pend_eq_false_of_arbAllows hwf harb hallows
    obtain ⟨hpq, hpr, hqr⟩ := arb_ne hwf harb
    obtain rfl | rfl | rfl := Source.mem_total_order hpq hpr hqr x
    · rw [if_pos hpend]
    · simp [hsecond rfl, hpend]
    · obtain ⟨hp, hq⟩ := hthird rfl
      simp [hp, hq, hpend]

/-- Settles O24: the granted source is pending and allowed, and in a total order the first pending source alone is both. -/
theorem fixedPriorityGrantsHighest : Obligations.FixedPriorityGrantsHighest := by
  intro s p q r hwf harb
  exact ⟨grant_of_order hwf harb, by rw [fetch, opCode_eq_zero_iff, grant_eq_none hwf]⟩

/-- Every candidate is the pick of some free choice: its place in the list. -/
theorem exists_pick_of_mem_candidates {s : State} {x : Source} (h : x ∈ candidates s) : ∃ n, pick n s = some x := by
  obtain ⟨n, hn, rfl⟩ := List.mem_iff_getElem.mp h
  refine ⟨n, ?_⟩
  unfold pick
  split
  · next hc => simp [hc] at hn
  · next y hc => simp [hc]
  · next y z rest hc =>
    have hlen : n < rest.length + 2 := by rwa [hc] at hn
    simp only [hc, Nat.mod_eq_of_lt hlen]
    exact congrArg some (List.getD_eq_getElem _ _ hlen)

theorem mem_candidates_of_free {s : State} {x : Source} (harb : s.cfg.arb = .free) :
    x ∈ candidates s ↔ pend s x = true := by
  have hallows : arbAllows s x = true := by simp [arbAllows, higher, harb]
  rw [mem_candidates, and_iff_left hallows]

/-- Settles O25: under ARB = free the candidates are the pending sources, and the pick goes through all of them. -/
theorem freeArbiterMayGrantAnyPending : Obligations.FreeArbiterMayGrantAnyPending := by
  intro s harb
  refine ⟨fun n hset => ?_, fun x hx => exists_pick_of_mem_candidates ((mem_candidates_of_free harb).mpr hx)⟩
  obtain ⟨y, hy⟩ : ∃ y, pend s y = true := by
    obtain ht | ha | hb := hset
    · exact ⟨.t, ht⟩
    · exact ⟨.a, ha⟩
    · exact ⟨.b, hb⟩
  cases hpick : pick n s with
  | none => exact absurd (pick_eq_none.mp hpick) (List.ne_nil_of_mem ((mem_candidates_of_free harb).mpr hy))
  | some x => exact ⟨x, rfl, (pick_enabled hpick).1⟩

/-! One step of the dispatcher (R105, R111, R112). -/

/-- serve(x) as a whole: the operation, with the latch cleared and IE set again at its end. -/
theorem serve_eq (x : Source) {s : State} (hwf : s.cfg.wf = true) :
    serve x s = .next (setIe true (setPend x false (effect x.letter.instr s))) := by
  rw [serve_of_wf x hwf, decodeOp_opCode_eq_letter, effect_letter_setIe, effect_letter_setPend]
  rfl

@[simp] theorem afterGrant_cfg (s : State) : (afterGrant s).cfg = s.cfg := by
  obtain ⟨n, hn⟩ := afterGrant_eq s
  rw [hn]

@[simp] theorem pend_afterGrant (s : State) (x : Source) : pend (afterGrant s) x = pend s x := by
  obtain ⟨n, hn⟩ := afterGrant_eq s
  rw [hn]
  cases x <;> rfl

theorem runEvent_serve (x : Source) {s : State} (hwf : s.cfg.wf = true) : runEvent (.serve x) s =
    .next (setIe true (setPend x false (effect x.letter.instr (afterGrant s)))) :=
  serve_eq x (by rwa [afterGrant_cfg])

theorem dispatcherMoves_iff {s : State} : s.dispatcherMoves = true ↔ nextTurn s = .dispatcher := beq_iff_eq

section Dispatcher

variable {s : State} (hturn : nextTurn s = .dispatcher) (hie : s.ie = true)
include hturn hie

theorem nextEvent_of_grant {x : Source} (hgrant : grant s = some x) : nextEvent s = .serve x := by
  rw [nextEvent_of_dispatcher hturn, hie, hgrant]
  rfl

theorem nextEvent_of_no_grant (hgrant : grant s = none) : nextEvent s = .idle := by
  rw [nextEvent_of_dispatcher hturn, hie, hgrant]
  rfl

theorem step_of_grant {x : Source} (hwf : s.cfg.wf = true) (hgrant : grant s = some x) :
    step s = runEvent (.serve x) (useTurn s) := by
  rw [step_of_wf hwf, takeTurn, nextEvent_of_grant hturn hie hgrant]

theorem step_of_no_grant (hwf : s.cfg.wf = true) (hgrant : grant s = none) : step s = .next (useTurn s) := by
  rw [step_of_wf hwf, takeTurn, nextEvent_of_no_grant hturn hie hgrant, runEvent_of_wf _ (by rwa [useTurn_cfg])]

end Dispatcher

/-- Drawing a choice and using up a turn may change places. -/
theorem afterGrant_useTurn (s : State) : afterGrant (useTurn s) = useTurn (afterGrant s) := by
  have hcandidates : candidates (useTurn s) = candidates s := by simp [candidates, arbAllows, pend]
  have hbump : bumpFree (useTurn s) = useTurn (bumpFree s) := by
    cases hl : s.agenda with
    | nil => rw [useTurn_nil hl, useTurn_nil (s := bumpFree s) hl]; rfl
    | cons turn rest => rw [useTurn_cons hl, useTurn_cons (s := bumpFree s) hl]; rfl
  rw [afterGrant, afterGrant, hcandidates, hbump, apply_ite useTurn]

/-- Settles O20: the arbiter's code is that of its grant, and serving is entry, its operation, return. -/
theorem stepRunsTheDecodedOperation : Obligations.StepRunsTheDecodedOperation := by
  intro s hwf hmoves hie
  have hturn := dispatcherMoves_iff.mp hmoves
  refine ⟨fun x hgrant => ?granted, fun hgrant => ?nothing⟩
  case granted =>
    have hentry : (enter x (useTurn (afterGrant s))).cfg.wf = true := by
      rwa [enter, setIe_cfg, setPend_cfg, useTurn_cfg, afterGrant_cfg]
    rw [fetch, hgrant, step_of_grant hturn hie hwf hgrant, runEvent, afterGrant_useTurn, serve, exec_of_wf _ hentry]
    exact ⟨_, exec_of_wf _ hentry, rfl⟩
  case nothing =>
    rw [fetch, hgrant]
    exact ⟨exec_of_wf .idle (by rwa [useTurn_cfg]), step_of_no_grant hturn hie hwf hgrant⟩

/-- Settles O26: B is the grant, and EDGE_B ends Driving and writes no latch. -/
theorem stopServedFirstUnderReferenceArbiter : Obligations.StopServedFirstUnderReferenceArbiter := by
  intro s hwf harb hie hset hmoves
  have hgrant : grant s = some .b := (grant_of_order hwf harb).trans (if_pos hset)
  have hkeeps (x : Source) (hx : .b ≠ x) :
      pend (setIe true (setPend .b false (effect Source.b.letter.instr (afterGrant (useTurn s))))) x = pend s x := by
    rw [pend_setIe, pend_setPend, if_neg hx, effect_letter_pend, pend_afterGrant, pend_useTurn]
  rw [step_of_grant (dispatcherMoves_iff.mp hmoves) hie hwf hgrant]
  exact ⟨_, runEvent_serve .b (by rwa [useTurn_cfg]), rfl, rfl, hkeeps .a (by decide), hkeeps .t (by decide)⟩

/-! What one event of a run keeps (R105). -/

/-- Everything an event that makes a next state can have done. -/
theorem runEvent_cases {e : Event} {s t : State} (hwf : s.cfg.wf = true) (h : runEvent e s = .next t) :
    (∃ p, e = .pin p ∧ t = effect p.instr s) ∨
    (∃ x, e = .serve x ∧ t = setIe true (setPend x false (effect x.letter.instr (afterGrant s)))) ∨
    ((e = .idle ∨ e = .held) ∧ t = s) := by
  cases e with
  | pin p => exact .inl ⟨p, rfl, (exec_eq_next.mp h).2⟩
  | serve x => exact .inr (.inl ⟨x, rfl, Host.Outcome.next.inj (h.symm.trans (runEvent_serve x hwf))⟩)
  | idle => exact .inr (.inr ⟨.inl rfl, (exec_eq_next (i := .idle).mp h).2⟩)
  | held => exact .inr (.inr ⟨.inr rfl, (Host.Outcome.next.inj h).symm⟩)

theorem runEvent_cfg {e : Event} {s t : State} (hwf : s.cfg.wf = true) (h : runEvent e s = .next t) :
    t.cfg = s.cfg := by
  obtain ⟨p, -, rfl⟩ | ⟨x, -, rfl⟩ | ⟨-, rfl⟩ := runEvent_cases hwf h
  · exact effect_cfg _ s
  · rw [setIe_cfg, setPend_cfg, effect_cfg, afterGrant_cfg]
  · rfl

theorem runEvent_ie {e : Event} {s t : State} (hwf : s.cfg.wf = true) (h : runEvent e s = .next t)
    (hreset : e ≠ .pin .rst) (hie : s.ie = true) : t.ie = true := by
  obtain ⟨p, rfl, rfl⟩ | ⟨x, -, rfl⟩ | ⟨-, rfl⟩ := runEvent_cases hwf h
  · exact effect_pin_ie (fun hp => hreset (hp ▸ rfl)) hie
  · rfl
  · exact hie

/-- Of the pins RESET alone clears a latch. -/
theorem effect_pin_pend {p : Pin} {s : State} {x : Source} (hp : p ≠ .rst) (hset : pend s x = true) :
    pend (effect p.instr s) x = true := by
  cases p with
  | rst => exact absurd rfl hp
  | start => cases x <;> exact hset
  | evT | evA | evB => simp [Pin.instr, effect, hset]

/-- R107: a latch that is set stays set through every event but its service and RESET. -/
theorem runEvent_pend {e : Event} {s t : State} {x : Source} (hwf : s.cfg.wf = true) (h : runEvent e s = .next t)
    (hserve : e ≠ .serve x) (hreset : e ≠ .pin .rst) (hset : pend s x = true) : pend t x = true := by
  obtain ⟨p, rfl, rfl⟩ | ⟨y, rfl, rfl⟩ | ⟨-, rfl⟩ := runEvent_cases hwf h
  · exact effect_pin_pend (fun hp => hreset (hp ▸ rfl)) hset
  · have hyx : y ≠ x := fun hyx => hserve (hyx ▸ rfl)
    rw [pend_setIe, pend_setPend, if_neg hyx, effect_letter_pend, pend_afterGrant, hset]
  · exact hset

/-- R111: serving a source clears its latch. -/
theorem pend_of_runEvent_serve {s t : State} {x : Source} (hwf : s.cfg.wf = true)
    (h : runEvent (.serve x) s = .next t) : pend t x = false := by
  obtain rfl := Host.Outcome.next.inj (h.symm.trans (runEvent_serve x hwf))
  rw [pend_setIe, pend_setPend, if_pos rfl]

theorem Run.Valid.wf {r : Run} (h : r.Valid) (n : Nat) : (r.state n).cfg.wf = true := by
  induction n with
  | zero => exact h.1
  | succ n ih => rwa [runEvent_cfg ih (h.2 n).2]

/-- Until the first step that serves it a latch is held, RESET apart. -/
theorem Run.Valid.pend_held {r : Run} (h : r.Valid) {n m : Nat} {x : Source} (hset : pend (r.state n) x = true)
    (hreset : ∀ k, n ≤ k → r.event k ≠ .pin .rst) (hserve : ∀ k, n ≤ k → k < m → r.event k ≠ .serve x) {k : Nat}
    (hnk : n ≤ k) (hkm : k ≤ m) : pend (r.state k) x = true := by
  induction k, hnk using Nat.le_induction with
  | base => exact hset
  | succ k hnk ih => exact runEvent_pend (h.wf k) (h.2 k).2 (hserve k hnk hkm) (hreset k hnk) (ih (by omega))

/-- Settles O28: the latch is held by each event but its service and RESET; of the services that fairness promises, the first. -/
theorem latchHeldUntilServed : Obligations.LatchHeldUntilServed := by
  refine ⟨fun s t x hstep hset hserve hreset => ?step, fun r n x hvalid hfair hie hset hreset => ?run⟩
  case step =>
    obtain ⟨hwf, -⟩ := step_cases hstep
    rw [step_of_wf hwf, takeTurn] at hstep
    exact runEvent_pend (by rwa [useTurn_cfg]) hstep hserve hreset (by rwa [pend_useTurn])
  case run =>
    have hserved : ∃ m, n ≤ m ∧ r.event m = .serve x := by
      obtain ⟨m, hnm, hm | hm⟩ := hfair n x hie hset
      · exact ⟨m, hnm, hm⟩
      · exact absurd hm (hreset m hnm)
    classical
    obtain ⟨hnm, hm⟩ := Nat.find_spec hserved
    have hfirst : ∀ k, n ≤ k → k < Nat.find hserved → r.event k ≠ .serve x := fun k hnk hk he =>
      Nat.find_min hserved hk ⟨hnk, he⟩
    refine ⟨Nat.find hserved, hnm, hm, fun k hnk hkm => hvalid.pend_held hset hreset hfirst hnk hkm, ?_⟩
    exact pend_of_runEvent_serve (hvalid.wf _) (hm ▸ (hvalid.2 _).2)

/-! Making runs: an event that repeats for ever, a step put before a run, and the run after its first step. -/

/-- The run that performs one event for ever and stays where it is. -/
def Run.forever (e : Event) (s : State) : Run where
  state := fun _ => s
  event := fun _ => e

/-- The run that performs `e` in `s` and goes on as `r`. -/
def Run.cons (e : Event) (s : State) (r : Run) : Run where
  state := fun n => match n with
    | 0 => s
    | k + 1 => r.state k
  event := fun n => match n with
    | 0 => e
    | k + 1 => r.event k

/-- The run after its first step. -/
def Run.tail (r : Run) : Run where
  state := fun n => r.state (n + 1)
  event := fun n => r.event (n + 1)

theorem Run.valid_forever {e : Event} {s : State} (hwf : s.cfg.wf = true) (henabled : eventEnabled e s = true)
    (hstays : runEvent e s = .next s) : (Run.forever e s).Valid :=
  ⟨hwf, fun _ => ⟨henabled, hstays⟩⟩

theorem Run.fair_forever_of_closed {e : Event} {s : State} (hclosed : s.ie = false) : (Run.forever e s).Fair :=
  fun _ _ hie _ => absurd (hclosed.symm.trans hie) Bool.noConfusion

theorem Run.valid_cons {e : Event} {s : State} {r : Run} (hwf : s.cfg.wf = true) (henabled : eventEnabled e s = true)
    (hfirst : runEvent e s = .next (r.state 0)) (hvalid : r.Valid) : (r.cons e s).Valid := by
  refine ⟨hwf, fun n => ?_⟩
  cases n with
  | zero => exact ⟨henabled, hfirst⟩
  | succ n => exact hvalid.2 n

/-- Fairness is about the tail of a run: what waits at its first state is served there, ends there, or waits still. -/
theorem Run.fair_cons {e : Event} {s : State} {r : Run} (hwf : s.cfg.wf = true)
    (hfirst : runEvent e s = .next (r.state 0)) (hfair : r.Fair) : (r.cons e s).Fair := by
  intro n x hie hset
  cases n with
  | zero =>
    by_cases hends : e = .serve x ∨ e = .pin .rst
    · exact ⟨0, le_rfl, hends⟩
    · obtain ⟨hserve, hreset⟩ := not_or.mp hends
      obtain ⟨m, -, hm⟩ := hfair 0 x (runEvent_ie hwf hfirst hreset hie) (runEvent_pend hwf hfirst hserve hreset hset)
      exact ⟨m + 1, Nat.zero_le _, hm⟩
  | succ n =>
    obtain ⟨m, hnm, hm⟩ := hfair n x hie hset
    exact ⟨m + 1, Nat.succ_le_succ hnm, hm⟩

theorem Run.valid_tail {r : Run} (h : r.Valid) : r.tail.Valid :=
  ⟨h.wf 1, fun n => h.2 (n + 1)⟩

theorem Run.trace_cons (e : Event) (s : State) (r : Run) (n : Nat) :
    (r.cons e s).trace (n + 1) = e.letter.toList ++ r.trace n := by
  induction n with
  | zero => simp [Run.trace, Run.cons]
  | succ n ih =>
    rw [Run.trace, ih, Run.trace, List.append_assoc]
    rfl

/-- A fair run begins in every state: a RESET ends every wait (R107), and with the gate closed again nothing waits (R132). -/
theorem Run.exists_fair {s : State} (hwf : s.cfg.wf = true) : ∃ r : Run, r.Valid ∧ r.Fair ∧ r.state 0 = s := by
  have hreset : runEvent (.pin .rst) s = .next (toReset s) := exec_of_wf .reset hwf
  have hheld : (Run.forever .held (toReset s)).Valid := Run.valid_forever hwf rfl rfl
  exact ⟨(Run.forever .held (toReset s)).cons (.pin .rst) s, Run.valid_cons hwf rfl hreset hheld,
    Run.fair_cons hwf hreset (Run.fair_forever_of_closed rfl), rfl⟩

theorem Run.exists_fair_continuation {r : Run} (n : Nat) (hvalid : r.Valid) :
    ∃ q : Run, q.Valid ∧ q.Fair ∧ (∀ k, k ≤ n → q.state k = r.state k) ∧ ∀ k, k < n → q.event k = r.event k := by
  induction n generalizing r with
  | zero =>
    obtain ⟨q, hqvalid, hqfair, hq⟩ := Run.exists_fair hvalid.1
    refine ⟨q, hqvalid, hqfair, fun k hk => ?_, fun k hk => absurd hk (Nat.not_lt_zero k)⟩
    rw [Nat.le_zero.mp hk, hq]
  | succ n ih =>
    obtain ⟨q, hqvalid, hqfair, hstate, hevent⟩ := ih (Run.valid_tail hvalid)
    obtain ⟨henabled, hfirst⟩ := hvalid.2 0
    have hfirst : runEvent (r.event 0) (r.state 0) = .next (q.state 0) := by rw [hfirst, hstate 0 n.zero_le]; rfl
    refine ⟨q.cons (r.event 0) (r.state 0), Run.valid_cons hvalid.1 henabled hfirst hqvalid,
      Run.fair_cons hvalid.1 hfirst hqfair, fun k hk => ?_, fun k hk => ?_⟩
    · cases k with
      | zero => rfl
      | succ k => exact hstate k (Nat.le_of_succ_le_succ hk)
    · cases k with
      | zero => rfl
      | succ k => exact hevent k (Nat.lt_of_succ_lt_succ hk)

/-- Settles O34: no meaning and no event is refused, and a run that is cut off goes on to a fair one. -/
theorem everyOperationCompletes : Obligations.EveryOperationCompletes := by
  refine ⟨fun s hwf => ⟨fun i => ⟨_, exec_of_wf i hwf⟩, ?_, nextEvent_enabled hwf⟩,
    fun _ n hvalid => Run.exists_fair_continuation n hvalid⟩
  rw [step_of_wf hwf, takeTurn, runEvent_of_wf _ (by rwa [useTurn_cfg])]
  exact ⟨_, rfl⟩

/-! The machine along listed turns: its steps are the first steps of a run. -/

theorem candidates_setAgenda (ts : List Turn) (s : State) : candidates (setAgenda ts s) = candidates s := rfl

theorem afterGrant_setAgenda (ts : List Turn) (s : State) :
    afterGrant (setAgenda ts s) = setAgenda ts (afterGrant s) := by
  rw [afterGrant, afterGrant, candidates_setAgenda, apply_ite (setAgenda ts)]
  rfl

/-- No event reads or writes the turns to come. -/
theorem runEvent_setAgenda {e : Event} {s t : State} (ts : List Turn) (hwf : s.cfg.wf = true)
    (h : runEvent e s = .next t) : runEvent e (setAgenda ts s) = .next (setAgenda ts t) := by
  have hwf' : (setAgenda ts s).cfg.wf = true := hwf
  obtain ⟨p, rfl, rfl⟩ | ⟨x, rfl, rfl⟩ | ⟨rfl | rfl, rfl⟩ := runEvent_cases hwf h
  · rw [← effect_pin_setAgenda]
    exact runEvent_of_wf (.pin p) hwf'
  · rw [runEvent_serve x hwf', afterGrant_setAgenda, effect_letter_setAgenda]
    rfl
  · exact runEvent_of_wf .idle hwf'
  · rfl

/-- The steps of the machine along its listed turns are the first steps of a valid and fair run. -/
theorem exists_run_of_core_run {ts : List Turn} {s t : State} (hwf : s.cfg.wf = true)
    (h : Sys2Proof.core.run ts.length (setAgenda ts s) = .next t) :
    ∃ (r : Run) (n : Nat), r.Valid ∧ r.Fair ∧ r.state 0 = setAgenda [] s ∧ r.state n = t ∧
      r.trace n = stepTrace ts.length (setAgenda ts s) := by
  induction ts generalizing s with
  | nil =>
    obtain ⟨r, hvalid, hfair, hstate⟩ := Run.exists_fair (s := setAgenda [] s) hwf
    exact ⟨r, 0, hvalid, hfair, hstate, hstate.trans (Host.Outcome.next.inj h), rfl⟩
  | cons turn ts ih =>
    have hwf' : (setAgenda (turn :: ts) s).cfg.wf = true := hwf
    have henabled : eventEnabled (nextEvent (setAgenda (turn :: ts) s)) s = true := nextEvent_enabled hwf'
    generalize he : nextEvent (setAgenda (turn :: ts) s) = e at henabled
    obtain ⟨u, hu⟩ : ∃ u, runEvent e s = .next u := ⟨_, runEvent_of_wf e hwf⟩
    have hstep : step (setAgenda (turn :: ts) s) = .next (setAgenda ts u) := by
      rw [step_of_wf hwf', takeTurn, he]
      exact runEvent_setAgenda (s := s) ts hwf hu
    rw [List.length_cons, core_run_succ _ hstep] at h
    obtain ⟨r, n, hvalid, hfair, hstart, hend, htrace⟩ := ih (by rwa [runEvent_cfg hwf hu]) h
    have hfirst : runEvent e (setAgenda [] s) = .next (r.state 0) := by rw [hstart, runEvent_setAgenda [] hwf hu]
    refine ⟨r.cons e (setAgenda [] s), n + 1, Run.valid_cons hwf henabled hfirst hvalid,
      Run.fair_cons hwf hfirst hfair, rfl, hend, ?_⟩
    rw [Run.trace_cons, htrace, List.length_cons, stepTrace_succ _ hstep, he]

/-! Each letter's turns (R105): the notification raised just before it is served. -/

theorem not_mem_higher (arb : Arb) (x : Source) : x ∉ higher arb x := by
  unfold higher
  split
  · simp
  · split
    · simp
    · split <;> simp_all

/-- A source that alone is pending is the one candidate, whatever the arbiter. -/
theorem candidates_of_lone {s : State} {x : Source} (h : ∀ y, pend s y = decide (y = x)) : candidates s = [x] := by
  have hallows : arbAllows s x = true := by
    rw [arbAllows_iff]
    intro y hy
    rw [h, decide_eq_false]
    rintro rfl
    exact not_mem_higher _ _ hy
  cases x <;> simp [candidates, h, hallows]

theorem grant_of_candidates_singleton {s : State} {x : Source} (h : candidates s = [x]) : grant s = some x := by
  rw [grant, pick, h]

theorem afterGrant_of_candidates_singleton {s : State} {x : Source} (h : candidates s = [x]) : afterGrant s = s :=
  if_neg (by simp [h])

section Turns

variable {s : State} (hwf : s.cfg.wf = true) (hidle : idleEnabled s = true) (ts : List Turn)
include hwf hidle

/-- The turn of `I`: nothing is pending, so the dispatcher idles. -/
theorem idle_turn : nextEvent (setAgenda (.dispatcher :: ts) s) = .idle ∧
    step (setAgenda (.dispatcher :: ts) s) = .next (setAgenda ts s) := by
  obtain ⟨hie, hclear⟩ := idleEnabled_iff.mp hidle
  have hgrant : grant (setAgenda (.dispatcher :: ts) s) = none :=
    (grant_eq_none_iff (s := setAgenda _ s) hwf).mpr (by simpa using hclear)
  exact ⟨nextEvent_of_no_grant rfl hie hgrant, step_of_no_grant (s := setAgenda _ s) rfl hie hwf hgrant⟩

/-- The second turn of a source's letter: the source is the only one pending, so the dispatcher serves it. -/
theorem serve_turn (x : Source) : nextEvent (setAgenda (.dispatcher :: ts) (setPend x true s)) = .serve x ∧
    step (setAgenda (.dispatcher :: ts) (setPend x true s)) = .next (setAgenda ts (effect x.letter.instr s)) := by
  obtain ⟨hie, hclear⟩ := idleEnabled_iff.mp hidle
  have hlone : candidates (setPend x true s) = [x] := candidates_of_lone fun y => by
    simp [hclear, eq_comm]
  have hgrant : grant (setAgenda (.dispatcher :: ts) (setPend x true s)) = some x :=
    grant_of_candidates_singleton hlone
  have hserve : serve x (setPend x true s) = .next (effect x.letter.instr s) := by
    rw [serve_eq x (by rwa [setPend_cfg]), effect_letter_setPend, setPend_setPend,
      setPend_of_pend_eq (by rw [effect_letter_pend, hclear]), setIe_of_ie_eq (by rw [effect_letter_ie, hie])]
  have hrun : runEvent (.serve x) (setPend x true s) = .next (effect x.letter.instr s) := by
    rw [runEvent, afterGrant_of_candidates_singleton hlone, hserve]
  have hturn : nextTurn (setAgenda (.dispatcher :: ts) (setPend x true s)) = .dispatcher := rfl
  refine ⟨nextEvent_of_grant hturn hie hgrant, ?_⟩
  rw [step_of_grant hturn hie hwf hgrant]
  exact runEvent_setAgenda (s := setPend x true s) ts hwf hrun

end Turns

/-- The first turn of a source's letter: the environment raises the notification. -/
theorem notify_turn {s : State} (hwf : s.cfg.wf = true) (x : Source) (ts : List Turn) :
    nextEvent (setAgenda (.pin x.pin :: ts) s) = .pin x.pin ∧
    step (setAgenda (.pin x.pin :: ts) s) = .next (setAgenda ts (setPend x true s)) := by
  refine ⟨nextEvent_of_pin rfl, ?_⟩
  rw [step_of_pin (s := setAgenda (.pin x.pin :: ts) s) hwf rfl]
  exact congrArg _ (effect_notify x (setAgenda ts s))

theorem turns_letter (x : Source) : Letter.turns x.letter = [.pin x.pin, .dispatcher] := by
  cases x <;> rfl

/-- The turns of one letter run its operation and give the trace that letter, whatever comes after. -/
theorem letter_turns {s : State} (hwf : s.cfg.wf = true) (hidle : idleEnabled s = true) (l : Letter) (ts : List Turn)
    (k : Nat) :
    Sys2Proof.core.run ((Letter.turns l).length + k) (setAgenda (Letter.turns l ++ ts) s) =
      Sys2Proof.core.run k (setAgenda ts (effect l.instr s)) ∧
    stepTrace ((Letter.turns l).length + k) (setAgenda (Letter.turns l ++ ts) s) =
      l :: stepTrace k (setAgenda ts (effect l.instr s)) := by
  obtain rfl | ⟨x, rfl⟩ := Letter.eq_i_or_source l
  · obtain ⟨hevent, hstep⟩ := idle_turn hwf hidle ts
    have hlen : (Letter.turns .i).length + k = k + 1 := Nat.add_comm 1 k
    rw [hlen]
    refine ⟨core_run_succ k hstep, (stepTrace_succ k hstep).trans ?_⟩
    rw [hevent]
    rfl
  · obtain ⟨hnotify, hfirst⟩ := notify_turn hwf x (.dispatcher :: ts)
    obtain ⟨hserve, hsecond⟩ := serve_turn hwf hidle ts x
    have hlen : (Letter.turns x.letter).length + k = k + 1 + 1 := by rw [turns_letter]; exact Nat.add_comm 2 k
    rw [hlen, turns_letter]
    refine ⟨(core_run_succ _ hfirst).trans (core_run_succ k hsecond), (stepTrace_succ _ hfirst).trans ?_⟩
    rw [stepTrace_succ k hsecond, hnotify, hserve, letter_serve]
    rfl

theorem idleEnabled_effect_letter (l : Letter) {s : State} (h : idleEnabled s = true) :
    idleEnabled (effect l.instr s) = true := by
  rw [idleEnabled_iff] at h ⊢
  simpa using h

/-- With nothing pending before it, a word's turns run its operations one after the other, and its letters are the trace. -/
theorem turnsOf_run {tr : List Letter} {s t : State} (hwf : s.cfg.wf = true) (hidle : idleEnabled s = true)
    (hrun : runTrace tr (setAgenda [] s) = .next t) :
    Sys2Proof.core.run (turnsOf tr).length (setAgenda (turnsOf tr) s) = .next t ∧
      stepTrace (turnsOf tr).length (setAgenda (turnsOf tr) s) = tr := by
  induction tr generalizing s with
  | nil => exact ⟨hrun, rfl⟩
  | cons l tr ih =>
    rw [runTrace_cons _ _ (by rwa [setAgenda_cfg]), effect_letter_setAgenda] at hrun
    obtain ⟨hstate, htrace⟩ := ih (by rwa [effect_cfg]) (idleEnabled_effect_letter l hidle) hrun
    obtain ⟨hletter, hletterTrace⟩ := letter_turns hwf hidle l (turnsOf tr) (turnsOf tr).length
    rw [turnsOf, List.length_append, hletter, hletterTrace, htrace]
    exact ⟨hstate, rfl⟩

/-- Settles O27: the word's turns run its operations, and the machine along these turns is the beginning of a fair run. -/
theorem everyTraceIsARun : Obligations.EveryTraceIsARun := by
  intro c tr hwf
  obtain ⟨t, hrun⟩ := exists_runTrace tr (s := State.launch c) hwf
  obtain ⟨hstate, htrace⟩ := turnsOf_run (s := State.launch c) hwf rfl hrun
  obtain ⟨r, n, hvalid, hfair, hstart, hend, hletters⟩ := exists_run_of_core_run (s := State.launch c) hwf hstate
  exact ⟨t, hrun, hstate, htrace, r, n, hvalid, hfair, hstart, hend, hletters.trans htrace⟩

end Sys2Proof.Machine
end

section
/-! PROOFS. The family of 70_reset_and_hazards.md: RESET (R130) and START (R133). -/

namespace Sys2Proof.Machine

/-- Unlit is 0 on the port (R46). -/
theorem indOut_of_unlit {s : State} (h : s.lit = false) : indOut s = 0#1 := by
  rw [indOut, h]
  rfl

/-- Settles O16: every register of the effect of RESET is one of R25's reset state, LIT and DRV among them, which the two ports
show. -/
theorem resetClearsEveryRegister : Obligations.ResetClearsEveryRegister := by
  intro s hwf
  have hlit : (toReset s).lit = false := resetWith_lit s.cfg
  have hdrv : (toReset s).drv = false := resetWith_drv s.cfg
  exact ⟨toReset s, exec_of_wf .reset hwf, rfl, rfl, rfl, rfl, hdrv, hlit, rfl, rfl, rfl, rfl, rfl, toReset_cfg s,
    indOut_of_unlit hlit, actOut_of_idle hdrv⟩

/-- Settles O18: the effect of START is the one write to IE, which writes what an open gate holds already. -/
theorem startOpensTheGate : Obligations.StartOpensTheGate :=
  fun _ hwf => ⟨exec_of_wf .start hwf, fun hie => (exec_of_wf .start hwf).trans (congrArg _ (setIe_of_ie_eq hie))⟩

end Sys2Proof.Machine
end

section
/-! PROOFS. The statements that rest on the model's own choices: the configuration and the outside world as fields of the state
(logs 1, 3, 12), and the hold before START (log 9). -/

namespace Sys2Proof.Machine

/-- No effect writes the configuration (R7, R22), and an operation that answers a next state answers its effect. -/
theorem exec_cfg {i : Instr} {s t : State} (h : exec i s = .next t) : t.cfg = s.cfg := by
  obtain ⟨-, rfl⟩ := exec_eq_next.mp h
  exact effect_cfg i s

/-- A step uses up a turn and performs one event, and neither writes the configuration. -/
theorem step_cfg {s t : State} (h : step s = .next t) : t.cfg = s.cfg := by
  obtain ⟨hwf, -⟩ := step_cases h
  have hturn : (useTurn s).cfg.wf = true := by rwa [useTurn_cfg]
  rw [step_of_wf hwf, takeTurn] at h
  exact (runEvent_cfg hturn h).trans (useTurn_cfg s)

/-- Settles O37: the frame of one operation and that of one step. -/
theorem configurationNeverChanges : Obligations.ConfigurationNeverChanges := by
  rintro s t (⟨i, hexec⟩ | hstep)
  · exact exec_cfg hexec
  · exact step_cfg hstep

/-- Settles O17: the effect of RESET is `toReset`, the reset state with the agenda and the two counters carried over. -/
theorem resetKeepsTheOutsideWorld : Obligations.ResetKeepsTheOutsideWorld := fun _ hwf => exec_of_wf .reset hwf

/-- With the gate closed the dispatcher's turn is the hold of R132. -/
theorem nextEvent_of_closed {s : State} (hturn : nextTurn s = .dispatcher) (hclosed : s.ie = false) :
    nextEvent s = .held := by
  rw [nextEvent_of_dispatcher hturn, hclosed]
  rfl

/-- Settles O22: the event is the hold, which leaves the state as the used-up turn made it. -/
theorem heldWhileGateClosed : Obligations.HeldWhileGateClosed := by
  intro s hwf hmoves hclosed
  rw [step_of_wf hwf, takeTurn, nextEvent_of_closed (dispatcherMoves_iff.mp hmoves) hclosed]
  rfl

/-- Settles O32: the reference configuration is one of the well-formed ones, whose reset states all meet the invariants. -/
theorem invariantHoldsAtModelReset : Obligations.InvariantHoldsAtModelReset :=
  have hwf : Config.reference.wf = true := by decide
  inv_resetWith hwf

end Sys2Proof.Machine
end
